-- ==== Sys2Proof/Word.lean ====
section
/-! DEFINITION. The types of words, bytes and register numbers. -/

namespace Sys2Proof

/-- A byte of memory. -/
abbrev Byte := BitVec 8

/-- An instruction word, or a 32-bit special-purpose register (R33, R300). -/
abbrev Word32 := BitVec 32

/-- An XLEN-wide value. Every such register is held in 64 bits; on XLEN = 32 its upper half is zero (log 2). -/
abbrev Word := BitVec 64

/-- The five-bit register number of an instruction field (R301). -/
abbrev RegNo := BitVec 5

end Sys2Proof
end

