-- ==== Sys2Proof/Syntax.lean ====
section
/-! DEFINITION. The instructions: one constructor per row of `spec/opcode_table.json`, its operands the fields of the
row's format (R301, R302). Reserved bits are no operand (R321). A field holds exactly the bits the encoding gives it. -/
namespace Sys2Proof

/-- Every instruction of the opcode table. Field names follow R301: `d`, `a`, `b` register numbers, `i` a signed
immediate (for the stores the joined bits 25-21 and 10-0), `k` an unsigned one, `n` a word displacement, `l` a shift
amount; `d2`, `a2`, `b2` are bits 10, 9, 8 of a double-precision instruction, the pair offsets of R603. -/
inductive Instr where
  /-- `l.add`, R402. -/
  | lAdd (d : RegNo) (a : RegNo) (b : RegNo)
  /-- `l.addc`, R403. -/
  | lAddc (d : RegNo) (a : RegNo) (b : RegNo)
  /-- `l.addi`, R404. -/
  | lAddi (d : RegNo) (a : RegNo) (i : BitVec 16)
  /-- `l.addic`, R405. -/
  | lAddic (d : RegNo) (a : RegNo) (i : BitVec 16)
  /-- `l.sub`, R406. -/
  | lSub (d : RegNo) (a : RegNo) (b : RegNo)
  /-- `l.and`, R407. -/
  | lAnd (d : RegNo) (a : RegNo) (b : RegNo)
  /-- `l.andi`, R408. -/
  | lAndi (d : RegNo) (a : RegNo) (k : BitVec 16)
  /-- `l.or`, R409. -/
  | lOr (d : RegNo) (a : RegNo) (b : RegNo)
  /-- `l.ori`, R410. -/
  | lOri (d : RegNo) (a : RegNo) (k : BitVec 16)
  /-- `l.xor`, R411. -/
  | lXor (d : RegNo) (a : RegNo) (b : RegNo)
  /-- `l.xori`, R412. -/
  | lXori (d : RegNo) (a : RegNo) (i : BitVec 16)
  /-- `l.movhi`, R413. -/
  | lMovhi (d : RegNo) (k : BitVec 16)
  /-- `l.adrp`, R414. -/
  | lAdrp (d : RegNo) (i : BitVec 21)
  /-- `l.cmov`, R415. -/
  | lCmov (d : RegNo) (a : RegNo) (b : RegNo)
  /-- `l.sll`, R416. -/
  | lSll (d : RegNo) (a : RegNo) (b : RegNo)
  /-- `l.slli`, R417. -/
  | lSlli (d : RegNo) (a : RegNo) (l : BitVec 6)
  /-- `l.srl`, R418. -/
  | lSrl (d : RegNo) (a : RegNo) (b : RegNo)
  /-- `l.srli`, R419. -/
  | lSrli (d : RegNo) (a : RegNo) (l : BitVec 6)
  /-- `l.sra`, R420. -/
  | lSra (d : RegNo) (a : RegNo) (b : RegNo)
  /-- `l.srai`, R421. -/
  | lSrai (d : RegNo) (a : RegNo) (l : BitVec 6)
  /-- `l.ror`, R424. -/
  | lRor (d : RegNo) (a : RegNo) (b : RegNo)
  /-- `l.rori`, R425. -/
  | lRori (d : RegNo) (a : RegNo) (l : BitVec 6)
  /-- `l.mul`, R426. -/
  | lMul (d : RegNo) (a : RegNo) (b : RegNo)
  /-- `l.muli`, R427. -/
  | lMuli (d : RegNo) (a : RegNo) (i : BitVec 16)
  /-- `l.mulu`, R428. -/
  | lMulu (d : RegNo) (a : RegNo) (b : RegNo)
  /-- `l.muld`, R422. -/
  | lMuld (a : RegNo) (b : RegNo)
  /-- `l.muldu`, R423. -/
  | lMuldu (a : RegNo) (b : RegNo)
  /-- `l.div`, R429. -/
  | lDiv (d : RegNo) (a : RegNo) (b : RegNo)
  /-- `l.divu`, R430. -/
  | lDivu (d : RegNo) (a : RegNo) (b : RegNo)
  /-- `l.extbs`, R431. -/
  | lExtbs (d : RegNo) (a : RegNo)
  /-- `l.extbz`, R432. -/
  | lExtbz (d : RegNo) (a : RegNo)
  /-- `l.exths`, R433. -/
  | lExths (d : RegNo) (a : RegNo)
  /-- `l.exthz`, R434. -/
  | lExthz (d : RegNo) (a : RegNo)
  /-- `l.extws`, R435. -/
  | lExtws (d : RegNo) (a : RegNo)
  /-- `l.extwz`, R436. -/
  | lExtwz (d : RegNo) (a : RegNo)
  /-- `l.ff1`, R437. -/
  | lFf1 (d : RegNo) (a : RegNo)
  /-- `l.fl1`, R438. -/
  | lFl1 (d : RegNo) (a : RegNo)
  /-- `l.sfeq`, R462. -/
  | lSfeq (a : RegNo) (b : RegNo)
  /-- `l.sfne`, R463. -/
  | lSfne (a : RegNo) (b : RegNo)
  /-- `l.sfgtu`, R464. -/
  | lSfgtu (a : RegNo) (b : RegNo)
  /-- `l.sfgeu`, R465. -/
  | lSfgeu (a : RegNo) (b : RegNo)
  /-- `l.sfltu`, R466. -/
  | lSfltu (a : RegNo) (b : RegNo)
  /-- `l.sfleu`, R467. -/
  | lSfleu (a : RegNo) (b : RegNo)
  /-- `l.sfgts`, R468. -/
  | lSfgts (a : RegNo) (b : RegNo)
  /-- `l.sfges`, R469. -/
  | lSfges (a : RegNo) (b : RegNo)
  /-- `l.sflts`, R470. -/
  | lSflts (a : RegNo) (b : RegNo)
  /-- `l.sfles`, R471. -/
  | lSfles (a : RegNo) (b : RegNo)
  /-- `l.sfeqi`, R472. -/
  | lSfeqi (a : RegNo) (i : BitVec 16)
  /-- `l.sfnei`, R473. -/
  | lSfnei (a : RegNo) (i : BitVec 16)
  /-- `l.sfgtui`, R474. -/
  | lSfgtui (a : RegNo) (i : BitVec 16)
  /-- `l.sfgeui`, R475. -/
  | lSfgeui (a : RegNo) (i : BitVec 16)
  /-- `l.sfltui`, R476. -/
  | lSfltui (a : RegNo) (i : BitVec 16)
  /-- `l.sfleui`, R477. -/
  | lSfleui (a : RegNo) (i : BitVec 16)
  /-- `l.sfgtsi`, R478. -/
  | lSfgtsi (a : RegNo) (i : BitVec 16)
  /-- `l.sfgesi`, R479. -/
  | lSfgesi (a : RegNo) (i : BitVec 16)
  /-- `l.sfltsi`, R480. -/
  | lSfltsi (a : RegNo) (i : BitVec 16)
  /-- `l.sflesi`, R481. -/
  | lSflesi (a : RegNo) (i : BitVec 16)
  /-- `l.lbz`, R503. -/
  | lLbz (d : RegNo) (a : RegNo) (i : BitVec 16)
  /-- `l.lbs`, R504. -/
  | lLbs (d : RegNo) (a : RegNo) (i : BitVec 16)
  /-- `l.lhz`, R505. -/
  | lLhz (d : RegNo) (a : RegNo) (i : BitVec 16)
  /-- `l.lhs`, R506. -/
  | lLhs (d : RegNo) (a : RegNo) (i : BitVec 16)
  /-- `l.lwz`, R507. -/
  | lLwz (d : RegNo) (a : RegNo) (i : BitVec 16)
  /-- `l.lws`, R508. -/
  | lLws (d : RegNo) (a : RegNo) (i : BitVec 16)
  /-- `l.ld`, R509. -/
  | lLd (d : RegNo) (a : RegNo) (i : BitVec 16)
  /-- `l.lf`, R510. -/
  | lLf (d : RegNo) (a : RegNo) (i : BitVec 16)
  /-- `l.lwa`, R511. -/
  | lLwa (d : RegNo) (a : RegNo) (i : BitVec 16)
  /-- `l.sb`, R512. -/
  | lSb (a : RegNo) (b : RegNo) (i : BitVec 16)
  /-- `l.sh`, R513. -/
  | lSh (a : RegNo) (b : RegNo) (i : BitVec 16)
  /-- `l.sw`, R514. -/
  | lSw (a : RegNo) (b : RegNo) (i : BitVec 16)
  /-- `l.sd`, R515. -/
  | lSd (a : RegNo) (b : RegNo) (i : BitVec 16)
  /-- `l.swa`, R516. -/
  | lSwa (a : RegNo) (b : RegNo) (i : BitVec 16)
  /-- `l.bf`, R535. -/
  | lBf (n : BitVec 26)
  /-- `l.bnf`, R536. -/
  | lBnf (n : BitVec 26)
  /-- `l.j`, R537. -/
  | lJ (n : BitVec 26)
  /-- `l.jal`, R538. -/
  | lJal (n : BitVec 26)
  /-- `l.jr`, R539. -/
  | lJr (b : RegNo)
  /-- `l.jalr`, R540. -/
  | lJalr (b : RegNo)
  /-- `l.nop`, R541. -/
  | lNop (k : BitVec 16)
  /-- `l.sys`, R551. -/
  | lSys (k : BitVec 16)
  /-- `l.trap`, R552. -/
  | lTrap (k : BitVec 16)
  /-- `l.rfe`, R553. -/
  | lRfe
  /-- `l.mfspr`, R555. -/
  | lMfspr (d : RegNo) (a : RegNo) (k : BitVec 16)
  /-- `l.mtspr`, R556. -/
  | lMtspr (a : RegNo) (b : RegNo) (k : BitVec 16)
  /-- `l.msync`, R560. -/
  | lMsync
  /-- `l.psync`, R561. -/
  | lPsync
  /-- `l.csync`, R562. -/
  | lCsync
  /-- `l.mac`, R570. -/
  | lMac (a : RegNo) (b : RegNo)
  /-- `l.maci`, R571. -/
  | lMaci (a : RegNo) (i : BitVec 16)
  /-- `l.macu`, R572. -/
  | lMacu (a : RegNo) (b : RegNo)
  /-- `l.msb`, R573. -/
  | lMsb (a : RegNo) (b : RegNo)
  /-- `l.msbu`, R574. -/
  | lMsbu (a : RegNo) (b : RegNo)
  /-- `l.macrc`, R575. -/
  | lMacrc (d : RegNo)
  /-- `lf.add.s`, R610. -/
  | lfAddS (d : RegNo) (a : RegNo) (b : RegNo)
  /-- `lf.sub.s`, R611. -/
  | lfSubS (d : RegNo) (a : RegNo) (b : RegNo)
  /-- `lf.mul.s`, R612. -/
  | lfMulS (d : RegNo) (a : RegNo) (b : RegNo)
  /-- `lf.div.s`, R613. -/
  | lfDivS (d : RegNo) (a : RegNo) (b : RegNo)
  /-- `lf.itof.s`, R614. -/
  | lfItofS (d : RegNo) (a : RegNo)
  /-- `lf.ftoi.s`, R615. -/
  | lfFtoiS (d : RegNo) (a : RegNo)
  /-- `lf.madd.s`, R618. -/
  | lfMaddS (a : RegNo) (b : RegNo)
  /-- `lf.sfeq.s`, R620. -/
  | lfSfeqS (a : RegNo) (b : RegNo)
  /-- `lf.sfne.s`, R621. -/
  | lfSfneS (a : RegNo) (b : RegNo)
  /-- `lf.sfgt.s`, R622. -/
  | lfSfgtS (a : RegNo) (b : RegNo)
  /-- `lf.sfge.s`, R623. -/
  | lfSfgeS (a : RegNo) (b : RegNo)
  /-- `lf.sflt.s`, R624. -/
  | lfSfltS (a : RegNo) (b : RegNo)
  /-- `lf.sfle.s`, R625. -/
  | lfSfleS (a : RegNo) (b : RegNo)
  /-- `lf.sfueq.s`, R626. -/
  | lfSfueqS (a : RegNo) (b : RegNo)
  /-- `lf.sfune.s`, R627. -/
  | lfSfuneS (a : RegNo) (b : RegNo)
  /-- `lf.sfugt.s`, R628. -/
  | lfSfugtS (a : RegNo) (b : RegNo)
  /-- `lf.sfuge.s`, R629. -/
  | lfSfugeS (a : RegNo) (b : RegNo)
  /-- `lf.sfult.s`, R630. -/
  | lfSfultS (a : RegNo) (b : RegNo)
  /-- `lf.sfule.s`, R631. -/
  | lfSfuleS (a : RegNo) (b : RegNo)
  /-- `lf.sfun.s`, R632. -/
  | lfSfunS (a : RegNo) (b : RegNo)
  /-- `lf.cust1.s`, R635. -/
  | lfCust1S (a : RegNo) (b : RegNo)
  /-- `lf.add.d`, R640. -/
  | lfAddD (d : RegNo) (a : RegNo) (b : RegNo) (d2 : BitVec 1) (a2 : BitVec 1) (b2 : BitVec 1)
  /-- `lf.sub.d`, R641. -/
  | lfSubD (d : RegNo) (a : RegNo) (b : RegNo) (d2 : BitVec 1) (a2 : BitVec 1) (b2 : BitVec 1)
  /-- `lf.mul.d`, R642. -/
  | lfMulD (d : RegNo) (a : RegNo) (b : RegNo) (d2 : BitVec 1) (a2 : BitVec 1) (b2 : BitVec 1)
  /-- `lf.div.d`, R643. -/
  | lfDivD (d : RegNo) (a : RegNo) (b : RegNo) (d2 : BitVec 1) (a2 : BitVec 1) (b2 : BitVec 1)
  /-- `lf.itof.d`, R644. -/
  | lfItofD (d : RegNo) (a : RegNo) (d2 : BitVec 1) (a2 : BitVec 1)
  /-- `lf.ftoi.d`, R645. -/
  | lfFtoiD (d : RegNo) (a : RegNo) (d2 : BitVec 1) (a2 : BitVec 1)
  /-- `lf.stod.d`, R646. -/
  | lfStodD (d : RegNo) (a : RegNo) (d2 : BitVec 1)
  /-- `lf.dtos.d`, R647. -/
  | lfDtosD (d : RegNo) (a : RegNo) (a2 : BitVec 1)
  /-- `lf.madd.d`, R648. -/
  | lfMaddD (a : RegNo) (b : RegNo) (a2 : BitVec 1) (b2 : BitVec 1)
  /-- `lf.sfeq.d`, R650. -/
  | lfSfeqD (a : RegNo) (b : RegNo) (a2 : BitVec 1) (b2 : BitVec 1)
  /-- `lf.sfne.d`, R651. -/
  | lfSfneD (a : RegNo) (b : RegNo) (a2 : BitVec 1) (b2 : BitVec 1)
  /-- `lf.sfgt.d`, R652. -/
  | lfSfgtD (a : RegNo) (b : RegNo) (a2 : BitVec 1) (b2 : BitVec 1)
  /-- `lf.sfge.d`, R653. -/
  | lfSfgeD (a : RegNo) (b : RegNo) (a2 : BitVec 1) (b2 : BitVec 1)
  /-- `lf.sflt.d`, R654. -/
  | lfSfltD (a : RegNo) (b : RegNo) (a2 : BitVec 1) (b2 : BitVec 1)
  /-- `lf.sfle.d`, R655. -/
  | lfSfleD (a : RegNo) (b : RegNo) (a2 : BitVec 1) (b2 : BitVec 1)
  /-- `lf.sfueq.d`, R656. -/
  | lfSfueqD (a : RegNo) (b : RegNo) (a2 : BitVec 1) (b2 : BitVec 1)
  /-- `lf.sfune.d`, R657. -/
  | lfSfuneD (a : RegNo) (b : RegNo) (a2 : BitVec 1) (b2 : BitVec 1)
  /-- `lf.sfugt.d`, R658. -/
  | lfSfugtD (a : RegNo) (b : RegNo) (a2 : BitVec 1) (b2 : BitVec 1)
  /-- `lf.sfuge.d`, R659. -/
  | lfSfugeD (a : RegNo) (b : RegNo) (a2 : BitVec 1) (b2 : BitVec 1)
  /-- `lf.sfult.d`, R660. -/
  | lfSfultD (a : RegNo) (b : RegNo) (a2 : BitVec 1) (b2 : BitVec 1)
  /-- `lf.sfule.d`, R661. -/
  | lfSfuleD (a : RegNo) (b : RegNo) (a2 : BitVec 1) (b2 : BitVec 1)
  /-- `lf.sfun.d`, R662. -/
  | lfSfunD (a : RegNo) (b : RegNo) (a2 : BitVec 1) (b2 : BitVec 1)
  /-- `lf.cust1.d`, R665. -/
  | lfCust1D (a : RegNo) (b : RegNo)
  /-- `lv.add.b`, R710. -/
  | lvAddB (d : RegNo) (a : RegNo) (b : RegNo)
  /-- `lv.add.h`, R711. -/
  | lvAddH (d : RegNo) (a : RegNo) (b : RegNo)
  /-- `lv.adds.b`, R712. -/
  | lvAddsB (d : RegNo) (a : RegNo) (b : RegNo)
  /-- `lv.adds.h`, R713. -/
  | lvAddsH (d : RegNo) (a : RegNo) (b : RegNo)
  /-- `lv.addu.b`, R714. -/
  | lvAdduB (d : RegNo) (a : RegNo) (b : RegNo)
  /-- `lv.addu.h`, R715. -/
  | lvAdduH (d : RegNo) (a : RegNo) (b : RegNo)
  /-- `lv.addus.b`, R716. -/
  | lvAddusB (d : RegNo) (a : RegNo) (b : RegNo)
  /-- `lv.addus.h`, R717. -/
  | lvAddusH (d : RegNo) (a : RegNo) (b : RegNo)
  /-- `lv.all_eq.b`, R721. -/
  | lvAllEqB (d : RegNo) (a : RegNo) (b : RegNo)
  /-- `lv.all_eq.h`, R722. -/
  | lvAllEqH (d : RegNo) (a : RegNo) (b : RegNo)
  /-- `lv.all_ge.b`, R723. -/
  | lvAllGeB (d : RegNo) (a : RegNo) (b : RegNo)
  /-- `lv.all_ge.h`, R724. -/
  | lvAllGeH (d : RegNo) (a : RegNo) (b : RegNo)
  /-- `lv.all_gt.b`, R725. -/
  | lvAllGtB (d : RegNo) (a : RegNo) (b : RegNo)
  /-- `lv.all_gt.h`, R726. -/
  | lvAllGtH (d : RegNo) (a : RegNo) (b : RegNo)
  /-- `lv.all_le.b`, R727. -/
  | lvAllLeB (d : RegNo) (a : RegNo) (b : RegNo)
  /-- `lv.all_le.h`, R728. -/
  | lvAllLeH (d : RegNo) (a : RegNo) (b : RegNo)
  /-- `lv.all_lt.b`, R729. -/
  | lvAllLtB (d : RegNo) (a : RegNo) (b : RegNo)
  /-- `lv.all_lt.h`, R730. -/
  | lvAllLtH (d : RegNo) (a : RegNo) (b : RegNo)
  /-- `lv.all_ne.b`, R731. -/
  | lvAllNeB (d : RegNo) (a : RegNo) (b : RegNo)
  /-- `lv.all_ne.h`, R732. -/
  | lvAllNeH (d : RegNo) (a : RegNo) (b : RegNo)
  /-- `lv.and`, R733. -/
  | lvAnd (d : RegNo) (a : RegNo) (b : RegNo)
  /-- `lv.any_eq.b`, R734. -/
  | lvAnyEqB (d : RegNo) (a : RegNo) (b : RegNo)
  /-- `lv.any_eq.h`, R735. -/
  | lvAnyEqH (d : RegNo) (a : RegNo) (b : RegNo)
  /-- `lv.any_ge.b`, R736. -/
  | lvAnyGeB (d : RegNo) (a : RegNo) (b : RegNo)
  /-- `lv.any_ge.h`, R737. -/
  | lvAnyGeH (d : RegNo) (a : RegNo) (b : RegNo)
  /-- `lv.any_gt.b`, R738. -/
  | lvAnyGtB (d : RegNo) (a : RegNo) (b : RegNo)
  /-- `lv.any_gt.h`, R739. -/
  | lvAnyGtH (d : RegNo) (a : RegNo) (b : RegNo)
  /-- `lv.any_le.b`, R740. -/
  | lvAnyLeB (d : RegNo) (a : RegNo) (b : RegNo)
  /-- `lv.any_le.h`, R741. -/
  | lvAnyLeH (d : RegNo) (a : RegNo) (b : RegNo)
  /-- `lv.any_lt.b`, R742. -/
  | lvAnyLtB (d : RegNo) (a : RegNo) (b : RegNo)
  /-- `lv.any_lt.h`, R743. -/
  | lvAnyLtH (d : RegNo) (a : RegNo) (b : RegNo)
  /-- `lv.any_ne.b`, R744. -/
  | lvAnyNeB (d : RegNo) (a : RegNo) (b : RegNo)
  /-- `lv.any_ne.h`, R745. -/
  | lvAnyNeH (d : RegNo) (a : RegNo) (b : RegNo)
  /-- `lv.avg.b`, R746. -/
  | lvAvgB (d : RegNo) (a : RegNo) (b : RegNo)
  /-- `lv.avg.h`, R747. -/
  | lvAvgH (d : RegNo) (a : RegNo) (b : RegNo)
  /-- `lv.cmp_eq.b`, R751. -/
  | lvCmpEqB (d : RegNo) (a : RegNo) (b : RegNo)
  /-- `lv.cmp_eq.h`, R752. -/
  | lvCmpEqH (d : RegNo) (a : RegNo) (b : RegNo)
  /-- `lv.cmp_ge.b`, R753. -/
  | lvCmpGeB (d : RegNo) (a : RegNo) (b : RegNo)
  /-- `lv.cmp_ge.h`, R754. -/
  | lvCmpGeH (d : RegNo) (a : RegNo) (b : RegNo)
  /-- `lv.cmp_gt.b`, R755. -/
  | lvCmpGtB (d : RegNo) (a : RegNo) (b : RegNo)
  /-- `lv.cmp_gt.h`, R756. -/
  | lvCmpGtH (d : RegNo) (a : RegNo) (b : RegNo)
  /-- `lv.cmp_le.b`, R757. -/
  | lvCmpLeB (d : RegNo) (a : RegNo) (b : RegNo)
  /-- `lv.cmp_le.h`, R758. -/
  | lvCmpLeH (d : RegNo) (a : RegNo) (b : RegNo)
  /-- `lv.cmp_lt.b`, R759. -/
  | lvCmpLtB (d : RegNo) (a : RegNo) (b : RegNo)
  /-- `lv.cmp_lt.h`, R760. -/
  | lvCmpLtH (d : RegNo) (a : RegNo) (b : RegNo)
  /-- `lv.cmp_ne.b`, R761. -/
  | lvCmpNeB (d : RegNo) (a : RegNo) (b : RegNo)
  /-- `lv.cmp_ne.h`, R762. -/
  | lvCmpNeH (d : RegNo) (a : RegNo) (b : RegNo)
  /-- `lv.madds.h`, R770. -/
  | lvMaddsH (d : RegNo) (a : RegNo) (b : RegNo)
  /-- `lv.msubs.h`, R777. -/
  | lvMsubsH (d : RegNo) (a : RegNo) (b : RegNo)
  /-- `lv.muls.h`, R778. -/
  | lvMulsH (d : RegNo) (a : RegNo) (b : RegNo)
  /-- `lv.max.b`, R771. -/
  | lvMaxB (d : RegNo) (a : RegNo) (b : RegNo)
  /-- `lv.max.h`, R772. -/
  | lvMaxH (d : RegNo) (a : RegNo) (b : RegNo)
  /-- `lv.min.b`, R775. -/
  | lvMinB (d : RegNo) (a : RegNo) (b : RegNo)
  /-- `lv.min.h`, R776. -/
  | lvMinH (d : RegNo) (a : RegNo) (b : RegNo)
  /-- `lv.merge.b`, R773. -/
  | lvMergeB (d : RegNo) (a : RegNo) (b : RegNo)
  /-- `lv.merge.h`, R774. -/
  | lvMergeH (d : RegNo) (a : RegNo) (b : RegNo)
  /-- `lv.nand`, R779. -/
  | lvNand (d : RegNo) (a : RegNo) (b : RegNo)
  /-- `lv.nor`, R780. -/
  | lvNor (d : RegNo) (a : RegNo) (b : RegNo)
  /-- `lv.or`, R781. -/
  | lvOr (d : RegNo) (a : RegNo) (b : RegNo)
  /-- `lv.xor`, R815. -/
  | lvXor (d : RegNo) (a : RegNo) (b : RegNo)
  /-- `lv.pack.b`, R782. -/
  | lvPackB (d : RegNo) (a : RegNo) (b : RegNo)
  /-- `lv.pack.h`, R783. -/
  | lvPackH (d : RegNo) (a : RegNo) (b : RegNo)
  /-- `lv.packs.b`, R784. -/
  | lvPacksB (d : RegNo) (a : RegNo) (b : RegNo)
  /-- `lv.packs.h`, R785. -/
  | lvPacksH (d : RegNo) (a : RegNo) (b : RegNo)
  /-- `lv.packus.b`, R786. -/
  | lvPackusB (d : RegNo) (a : RegNo) (b : RegNo)
  /-- `lv.packus.h`, R787. -/
  | lvPackusH (d : RegNo) (a : RegNo) (b : RegNo)
  /-- `lv.perm.n`, R788. -/
  | lvPermN (d : RegNo) (a : RegNo) (b : RegNo)
  /-- `lv.unpack.b`, R813. -/
  | lvUnpackB (d : RegNo) (a : RegNo) (b : RegNo)
  /-- `lv.unpack.h`, R814. -/
  | lvUnpackH (d : RegNo) (a : RegNo) (b : RegNo)
  /-- `lv.rl.b`, R790. -/
  | lvRlB (d : RegNo) (a : RegNo) (b : RegNo)
  /-- `lv.rl.h`, R791. -/
  | lvRlH (d : RegNo) (a : RegNo) (b : RegNo)
  /-- `lv.sll.b`, R792. -/
  | lvSllB (d : RegNo) (a : RegNo) (b : RegNo)
  /-- `lv.sll.h`, R793. -/
  | lvSllH (d : RegNo) (a : RegNo) (b : RegNo)
  /-- `lv.sll`, R794. -/
  | lvSll (d : RegNo) (a : RegNo) (b : RegNo)
  /-- `lv.srl.b`, R795. -/
  | lvSrlB (d : RegNo) (a : RegNo) (b : RegNo)
  /-- `lv.srl.h`, R796. -/
  | lvSrlH (d : RegNo) (a : RegNo) (b : RegNo)
  /-- `lv.sra.b`, R797. -/
  | lvSraB (d : RegNo) (a : RegNo) (b : RegNo)
  /-- `lv.sra.h`, R798. -/
  | lvSraH (d : RegNo) (a : RegNo) (b : RegNo)
  /-- `lv.srl`, R799. -/
  | lvSrl (d : RegNo) (a : RegNo) (b : RegNo)
  /-- `lv.sub.b`, R800. -/
  | lvSubB (d : RegNo) (a : RegNo) (b : RegNo)
  /-- `lv.sub.h`, R801. -/
  | lvSubH (d : RegNo) (a : RegNo) (b : RegNo)
  /-- `lv.subs.b`, R802. -/
  | lvSubsB (d : RegNo) (a : RegNo) (b : RegNo)
  /-- `lv.subs.h`, R803. -/
  | lvSubsH (d : RegNo) (a : RegNo) (b : RegNo)
  /-- `lv.subu.b`, R804. -/
  | lvSubuB (d : RegNo) (a : RegNo) (b : RegNo)
  /-- `lv.subu.h`, R805. -/
  | lvSubuH (d : RegNo) (a : RegNo) (b : RegNo)
  /-- `lv.subus.b`, R806. -/
  | lvSubusB (d : RegNo) (a : RegNo) (b : RegNo)
  /-- `lv.subus.h`, R807. -/
  | lvSubusH (d : RegNo) (a : RegNo) (b : RegNo)
  /-- `l.cust1`, R580. -/
  | lCust1
  /-- `l.cust2`, R580. -/
  | lCust2
  /-- `l.cust3`, R580. -/
  | lCust3
  /-- `l.cust4`, R580. -/
  | lCust4
  /-- `l.cust5`, R580. -/
  | lCust5 (d : RegNo) (a : RegNo) (b : RegNo) (l : BitVec 6) (k : BitVec 5)
  /-- `l.cust6`, R580. -/
  | lCust6
  /-- `l.cust7`, R580. -/
  | lCust7
  /-- `l.cust8`, R580. -/
  | lCust8
  /-- `lv.cust1`, R765. -/
  | lvCust1
  /-- `lv.cust2`, R765. -/
  | lvCust2
  /-- `lv.cust3`, R765. -/
  | lvCust3
  /-- `lv.cust4`, R765. -/
  | lvCust4
deriving DecidableEq, Repr

end Sys2Proof
end

