-- ==== Sys2Proof/Decode.lean ====
section
/-! DEFINITION. The decoder, total on every word and every list of bytes, and after it the encoder. -/

namespace Sys2Proof

/-- Why bytes are no instruction. -/
inductive Undecoded where
  /-- An instruction is four bytes long (R300). -/
  | notFourBytes
  /-- No instruction has this major opcode (R310). -/
  | unassignedMajor (op : BitVec 6)
  /-- No instruction has this minor opcode under this major opcode (R311 to R315). -/
  | unassignedMinor (op : BitVec 6)
deriving DecidableEq, Repr

/-- D, bits 25-21 (R301). -/
def fieldD (w : Word32) : RegNo := w.extractLsb' 21 5
/-- A, bits 20-16 (R301). -/
def fieldA (w : Word32) : RegNo := w.extractLsb' 16 5
/-- B, bits 15-11 (R301). -/
def fieldB (w : Word32) : RegNo := w.extractLsb' 11 5
/-- I or K, bits 15-0 (R301). -/
def fieldI (w : Word32) : BitVec 16 := w.extractLsb' 0 16
/-- The immediate of the stores and of `l.mtspr`: bits 25-21 above bits 10-0 (R301, R501). -/
def splitImm (w : Word32) : BitVec 16 := w.extractLsb' 21 5 ++ w.extractLsb' 0 11
/-- Bit 10, the offset of the destination pair (R603). -/
def fieldD2 (w : Word32) : BitVec 1 := w.extractLsb' 10 1
/-- Bit 9, the offset of the first source pair (R603). -/
def fieldA2 (w : Word32) : BitVec 1 := w.extractLsb' 9 1
/-- Bit 8, the offset of the second source pair (R603). -/
def fieldB2 (w : Word32) : BitVec 1 := w.extractLsb' 8 1

/-- Major opcode 0x2E: bits 7-6 (R313). -/
def decodeShi (w : Word32) : Except Undecoded Instr :=
  match (w.extractLsb' 6 2).toNat with
  | 0x0 => .ok (.lSlli (fieldD w) (fieldA w) (w.extractLsb' 0 6))
  | 0x1 => .ok (.lSrli (fieldD w) (fieldA w) (w.extractLsb' 0 6))
  | 0x2 => .ok (.lSrai (fieldD w) (fieldA w) (w.extractLsb' 0 6))
  | 0x3 => .ok (.lRori (fieldD w) (fieldA w) (w.extractLsb' 0 6))
  | _ => .error (.unassignedMinor (w.extractLsb' 26 6))

/-- Major opcode 0x2F: bits 25-21 (R313). -/
def decodeSfi (w : Word32) : Except Undecoded Instr :=
  match (w.extractLsb' 21 5).toNat with
  | 0x0 => .ok (.lSfeqi (fieldA w) (fieldI w))
  | 0x1 => .ok (.lSfnei (fieldA w) (fieldI w))
  | 0x2 => .ok (.lSfgtui (fieldA w) (fieldI w))
  | 0x3 => .ok (.lSfgeui (fieldA w) (fieldI w))
  | 0x4 => .ok (.lSfltui (fieldA w) (fieldI w))
  | 0x5 => .ok (.lSfleui (fieldA w) (fieldI w))
  | 0xA => .ok (.lSfgtsi (fieldA w) (fieldI w))
  | 0xB => .ok (.lSfgesi (fieldA w) (fieldI w))
  | 0xC => .ok (.lSfltsi (fieldA w) (fieldI w))
  | 0xD => .ok (.lSflesi (fieldA w) (fieldI w))
  | _ => .error (.unassignedMinor (w.extractLsb' 26 6))

/-- Major opcode 0x39: bits 25-21 (R313). -/
def decodeSf (w : Word32) : Except Undecoded Instr :=
  match (w.extractLsb' 21 5).toNat with
  | 0x0 => .ok (.lSfeq (fieldA w) (fieldB w))
  | 0x1 => .ok (.lSfne (fieldA w) (fieldB w))
  | 0x2 => .ok (.lSfgtu (fieldA w) (fieldB w))
  | 0x3 => .ok (.lSfgeu (fieldA w) (fieldB w))
  | 0x4 => .ok (.lSfltu (fieldA w) (fieldB w))
  | 0x5 => .ok (.lSfleu (fieldA w) (fieldB w))
  | 0xA => .ok (.lSfgts (fieldA w) (fieldB w))
  | 0xB => .ok (.lSfges (fieldA w) (fieldB w))
  | 0xC => .ok (.lSflts (fieldA w) (fieldB w))
  | 0xD => .ok (.lSfles (fieldA w) (fieldB w))
  | _ => .error (.unassignedMinor (w.extractLsb' 26 6))

/-- Major opcode 0x31: bits 3-0 (R313). -/
def decodeMac (w : Word32) : Except Undecoded Instr :=
  match (w.extractLsb' 0 4).toNat with
  | 0x1 => .ok (.lMac (fieldA w) (fieldB w))
  | 0x3 => .ok (.lMacu (fieldA w) (fieldB w))
  | 0x2 => .ok (.lMsb (fieldA w) (fieldB w))
  | 0x4 => .ok (.lMsbu (fieldA w) (fieldB w))
  | _ => .error (.unassignedMinor (w.extractLsb' 26 6))

/-- Major opcode 0x38, bits 3-0 = 0x8: bits 9-6 (R312). -/
def decodeShift (w : Word32) : Except Undecoded Instr :=
  match (w.extractLsb' 6 4).toNat with
  | 0x0 => .ok (.lSll (fieldD w) (fieldA w) (fieldB w))
  | 0x1 => .ok (.lSrl (fieldD w) (fieldA w) (fieldB w))
  | 0x2 => .ok (.lSra (fieldD w) (fieldA w) (fieldB w))
  | 0x3 => .ok (.lRor (fieldD w) (fieldA w) (fieldB w))
  | _ => .error (.unassignedMinor (w.extractLsb' 26 6))

/-- Major opcode 0x38, bits 9-8 = 0 and bits 3-0 = 0xC: bits 9-6 (R312). -/
def decodeExtHalf (w : Word32) : Except Undecoded Instr :=
  match (w.extractLsb' 6 4).toNat with
  | 0x1 => .ok (.lExtbs (fieldD w) (fieldA w))
  | 0x3 => .ok (.lExtbz (fieldD w) (fieldA w))
  | 0x0 => .ok (.lExths (fieldD w) (fieldA w))
  | 0x2 => .ok (.lExthz (fieldD w) (fieldA w))
  | _ => .error (.unassignedMinor (w.extractLsb' 26 6))

/-- Major opcode 0x38, bits 3-0 = 0xD: bits 9-6 (R312). -/
def decodeExtWord (w : Word32) : Except Undecoded Instr :=
  match (w.extractLsb' 6 4).toNat with
  | 0x0 => .ok (.lExtws (fieldD w) (fieldA w))
  | 0x1 => .ok (.lExtwz (fieldD w) (fieldA w))
  | _ => .error (.unassignedMinor (w.extractLsb' 26 6))

/-- Major opcode 0x38: bits 9-8 and 3-0, and bits 9-6 for the shifts and extensions (R312). -/
def decodeAlu (w : Word32) : Except Undecoded Instr :=
  match (w.extractLsb' 8 2).toNat, (w.extractLsb' 0 4).toNat with
  | 0, 0x0 => .ok (.lAdd (fieldD w) (fieldA w) (fieldB w))
  | 0, 0x1 => .ok (.lAddc (fieldD w) (fieldA w) (fieldB w))
  | 0, 0x2 => .ok (.lSub (fieldD w) (fieldA w) (fieldB w))
  | 0, 0x3 => .ok (.lAnd (fieldD w) (fieldA w) (fieldB w))
  | 0, 0x4 => .ok (.lOr (fieldD w) (fieldA w) (fieldB w))
  | 0, 0x5 => .ok (.lXor (fieldD w) (fieldA w) (fieldB w))
  | 0, 0xE => .ok (.lCmov (fieldD w) (fieldA w) (fieldB w))
  | 0, 0xF => .ok (.lFf1 (fieldD w) (fieldA w))
  | 1, 0xF => .ok (.lFl1 (fieldD w) (fieldA w))
  | 3, 0x6 => .ok (.lMul (fieldD w) (fieldA w) (fieldB w))
  | 3, 0x7 => .ok (.lMuld (fieldA w) (fieldB w))
  | 3, 0x9 => .ok (.lDiv (fieldD w) (fieldA w) (fieldB w))
  | 3, 0xA => .ok (.lDivu (fieldD w) (fieldA w) (fieldB w))
  | 3, 0xB => .ok (.lMulu (fieldD w) (fieldA w) (fieldB w))
  | 3, 0xC => .ok (.lMuldu (fieldA w) (fieldB w))
  | 0, 0x8 => decodeShift w
  | 0, 0xC => decodeExtHalf w
  | 0, 0xD => decodeExtWord w
  | _, _ => .error (.unassignedMinor (w.extractLsb' 26 6))

/-- Major opcode 0x32, minor opcodes 0x00 to 0x0F (R314). -/
def decodeFp0 (w : Word32) : Except Undecoded Instr :=
  match (w.extractLsb' 0 4).toNat with
  | 0x0 => .ok (.lfAddS (fieldD w) (fieldA w) (fieldB w))
  | 0x1 => .ok (.lfSubS (fieldD w) (fieldA w) (fieldB w))
  | 0x2 => .ok (.lfMulS (fieldD w) (fieldA w) (fieldB w))
  | 0x3 => .ok (.lfDivS (fieldD w) (fieldA w) (fieldB w))
  | 0x4 => if w.extractLsb' 11 5 = 0 then .ok (.lfItofS (fieldD w) (fieldA w)) else .error (.unassignedMinor (w.extractLsb' 26 6))
  | 0x5 => if w.extractLsb' 11 5 = 0 then .ok (.lfFtoiS (fieldD w) (fieldA w)) else .error (.unassignedMinor (w.extractLsb' 26 6))
  | 0x7 => .ok (.lfMaddS (fieldA w) (fieldB w))
  | 0x8 => .ok (.lfSfeqS (fieldA w) (fieldB w))
  | 0x9 => .ok (.lfSfneS (fieldA w) (fieldB w))
  | 0xA => .ok (.lfSfgtS (fieldA w) (fieldB w))
  | 0xB => .ok (.lfSfgeS (fieldA w) (fieldB w))
  | 0xC => .ok (.lfSfltS (fieldA w) (fieldB w))
  | 0xD => .ok (.lfSfleS (fieldA w) (fieldB w))
  | _ => .error (.unassignedMinor (w.extractLsb' 26 6))

/-- Major opcode 0x32, minor opcodes 0x10 to 0x1F (R314). -/
def decodeFp1 (w : Word32) : Except Undecoded Instr :=
  match (w.extractLsb' 0 4).toNat with
  | 0x0 => .ok (.lfAddD (fieldD w) (fieldA w) (fieldB w) (fieldD2 w) (fieldA2 w) (fieldB2 w))
  | 0x1 => .ok (.lfSubD (fieldD w) (fieldA w) (fieldB w) (fieldD2 w) (fieldA2 w) (fieldB2 w))
  | 0x2 => .ok (.lfMulD (fieldD w) (fieldA w) (fieldB w) (fieldD2 w) (fieldA2 w) (fieldB2 w))
  | 0x3 => .ok (.lfDivD (fieldD w) (fieldA w) (fieldB w) (fieldD2 w) (fieldA2 w) (fieldB2 w))
  | 0x4 => if w.extractLsb' 11 5 = 0 then .ok (.lfItofD (fieldD w) (fieldA w) (fieldD2 w) (fieldA2 w)) else .error (.unassignedMinor (w.extractLsb' 26 6))
  | 0x5 => if w.extractLsb' 11 5 = 0 then .ok (.lfFtoiD (fieldD w) (fieldA w) (fieldD2 w) (fieldA2 w)) else .error (.unassignedMinor (w.extractLsb' 26 6))
  | 0x7 => .ok (.lfMaddD (fieldA w) (fieldB w) (fieldA2 w) (fieldB2 w))
  | 0x8 => .ok (.lfSfeqD (fieldA w) (fieldB w) (fieldA2 w) (fieldB2 w))
  | 0x9 => .ok (.lfSfneD (fieldA w) (fieldB w) (fieldA2 w) (fieldB2 w))
  | 0xA => .ok (.lfSfgtD (fieldA w) (fieldB w) (fieldA2 w) (fieldB2 w))
  | 0xB => .ok (.lfSfgeD (fieldA w) (fieldB w) (fieldA2 w) (fieldB2 w))
  | 0xC => .ok (.lfSfltD (fieldA w) (fieldB w) (fieldA2 w) (fieldB2 w))
  | 0xD => .ok (.lfSfleD (fieldA w) (fieldB w) (fieldA2 w) (fieldB2 w))
  | _ => .error (.unassignedMinor (w.extractLsb' 26 6))

/-- Major opcode 0x32, minor opcodes 0x20 to 0x2F (R314). -/
def decodeFp2 (w : Word32) : Except Undecoded Instr :=
  match (w.extractLsb' 0 4).toNat with
  | 0x8 => .ok (.lfSfueqS (fieldA w) (fieldB w))
  | 0x9 => .ok (.lfSfuneS (fieldA w) (fieldB w))
  | 0xA => .ok (.lfSfugtS (fieldA w) (fieldB w))
  | 0xB => .ok (.lfSfugeS (fieldA w) (fieldB w))
  | 0xC => .ok (.lfSfultS (fieldA w) (fieldB w))
  | 0xD => .ok (.lfSfuleS (fieldA w) (fieldB w))
  | 0xE => .ok (.lfSfunS (fieldA w) (fieldB w))
  | _ => .error (.unassignedMinor (w.extractLsb' 26 6))

/-- Major opcode 0x32, minor opcodes 0x30 to 0x3F (R314). -/
def decodeFp3 (w : Word32) : Except Undecoded Instr :=
  match (w.extractLsb' 0 4).toNat with
  | 0x4 => .ok (.lfStodD (fieldD w) (fieldA w) (fieldD2 w))
  | 0x5 => .ok (.lfDtosD (fieldD w) (fieldA w) (fieldA2 w))
  | 0x8 => .ok (.lfSfueqD (fieldA w) (fieldB w) (fieldA2 w) (fieldB2 w))
  | 0x9 => .ok (.lfSfuneD (fieldA w) (fieldB w) (fieldA2 w) (fieldB2 w))
  | 0xA => .ok (.lfSfugtD (fieldA w) (fieldB w) (fieldA2 w) (fieldB2 w))
  | 0xB => .ok (.lfSfugeD (fieldA w) (fieldB w) (fieldA2 w) (fieldB2 w))
  | 0xC => .ok (.lfSfultD (fieldA w) (fieldB w) (fieldA2 w) (fieldB2 w))
  | 0xD => .ok (.lfSfuleD (fieldA w) (fieldB w) (fieldA2 w) (fieldB2 w))
  | 0xE => .ok (.lfSfunD (fieldA w) (fieldB w) (fieldA2 w) (fieldB2 w))
  | _ => .error (.unassignedMinor (w.extractLsb' 26 6))

/-- Major opcode 0x32, ORFPX: the minor opcode in bits 7-0 (R314). What R670 says is not in it has no minor opcode here. -/
def decodeFp (w : Word32) : Except Undecoded Instr :=
  match (w.extractLsb' 4 4).toNat with
  | 0x0 => decodeFp0 w
  | 0x1 => decodeFp1 w
  | 0x2 => decodeFp2 w
  | 0x3 => decodeFp3 w
  | 0xD => .ok (.lfCust1S (fieldA w) (fieldB w))
  | 0xE => .ok (.lfCust1D (fieldA w) (fieldB w))
  | _ => .error (.unassignedMinor (w.extractLsb' 26 6))

/-- Major opcode 0x0A, minor opcodes 0x10 to 0x1F (R315). -/
def decodeVec1 (w : Word32) : Except Undecoded Instr :=
  match (w.extractLsb' 0 4).toNat with
  | 0x0 => .ok (.lvAllEqB (fieldD w) (fieldA w) (fieldB w))
  | 0x1 => .ok (.lvAllEqH (fieldD w) (fieldA w) (fieldB w))
  | 0x2 => .ok (.lvAllGeB (fieldD w) (fieldA w) (fieldB w))
  | 0x3 => .ok (.lvAllGeH (fieldD w) (fieldA w) (fieldB w))
  | 0x4 => .ok (.lvAllGtB (fieldD w) (fieldA w) (fieldB w))
  | 0x5 => .ok (.lvAllGtH (fieldD w) (fieldA w) (fieldB w))
  | 0x6 => .ok (.lvAllLeB (fieldD w) (fieldA w) (fieldB w))
  | 0x7 => .ok (.lvAllLeH (fieldD w) (fieldA w) (fieldB w))
  | 0x8 => .ok (.lvAllLtB (fieldD w) (fieldA w) (fieldB w))
  | 0x9 => .ok (.lvAllLtH (fieldD w) (fieldA w) (fieldB w))
  | 0xA => .ok (.lvAllNeB (fieldD w) (fieldA w) (fieldB w))
  | 0xB => .ok (.lvAllNeH (fieldD w) (fieldA w) (fieldB w))
  | _ => .error (.unassignedMinor (w.extractLsb' 26 6))

/-- Major opcode 0x0A, minor opcodes 0x20 to 0x2F (R315). -/
def decodeVec2 (w : Word32) : Except Undecoded Instr :=
  match (w.extractLsb' 0 4).toNat with
  | 0x0 => .ok (.lvAnyEqB (fieldD w) (fieldA w) (fieldB w))
  | 0x1 => .ok (.lvAnyEqH (fieldD w) (fieldA w) (fieldB w))
  | 0x2 => .ok (.lvAnyGeB (fieldD w) (fieldA w) (fieldB w))
  | 0x3 => .ok (.lvAnyGeH (fieldD w) (fieldA w) (fieldB w))
  | 0x4 => .ok (.lvAnyGtB (fieldD w) (fieldA w) (fieldB w))
  | 0x5 => .ok (.lvAnyGtH (fieldD w) (fieldA w) (fieldB w))
  | 0x6 => .ok (.lvAnyLeB (fieldD w) (fieldA w) (fieldB w))
  | 0x7 => .ok (.lvAnyLeH (fieldD w) (fieldA w) (fieldB w))
  | 0x8 => .ok (.lvAnyLtB (fieldD w) (fieldA w) (fieldB w))
  | 0x9 => .ok (.lvAnyLtH (fieldD w) (fieldA w) (fieldB w))
  | 0xA => .ok (.lvAnyNeB (fieldD w) (fieldA w) (fieldB w))
  | 0xB => .ok (.lvAnyNeH (fieldD w) (fieldA w) (fieldB w))
  | _ => .error (.unassignedMinor (w.extractLsb' 26 6))

/-- Major opcode 0x0A, minor opcodes 0x30 to 0x3F (R315). -/
def decodeVec3 (w : Word32) : Except Undecoded Instr :=
  match (w.extractLsb' 0 4).toNat with
  | 0x0 => .ok (.lvAddB (fieldD w) (fieldA w) (fieldB w))
  | 0x1 => .ok (.lvAddH (fieldD w) (fieldA w) (fieldB w))
  | 0x2 => .ok (.lvAddsB (fieldD w) (fieldA w) (fieldB w))
  | 0x3 => .ok (.lvAddsH (fieldD w) (fieldA w) (fieldB w))
  | 0x4 => .ok (.lvAdduB (fieldD w) (fieldA w) (fieldB w))
  | 0x5 => .ok (.lvAdduH (fieldD w) (fieldA w) (fieldB w))
  | 0x6 => .ok (.lvAddusB (fieldD w) (fieldA w) (fieldB w))
  | 0x7 => .ok (.lvAddusH (fieldD w) (fieldA w) (fieldB w))
  | 0x8 => .ok (.lvAnd (fieldD w) (fieldA w) (fieldB w))
  | 0x9 => .ok (.lvAvgB (fieldD w) (fieldA w) (fieldB w))
  | 0xA => .ok (.lvAvgH (fieldD w) (fieldA w) (fieldB w))
  | _ => .error (.unassignedMinor (w.extractLsb' 26 6))

/-- Major opcode 0x0A, minor opcodes 0x40 to 0x4F (R315). -/
def decodeVec4 (w : Word32) : Except Undecoded Instr :=
  match (w.extractLsb' 0 4).toNat with
  | 0x0 => .ok (.lvCmpEqB (fieldD w) (fieldA w) (fieldB w))
  | 0x1 => .ok (.lvCmpEqH (fieldD w) (fieldA w) (fieldB w))
  | 0x2 => .ok (.lvCmpGeB (fieldD w) (fieldA w) (fieldB w))
  | 0x3 => .ok (.lvCmpGeH (fieldD w) (fieldA w) (fieldB w))
  | 0x4 => .ok (.lvCmpGtB (fieldD w) (fieldA w) (fieldB w))
  | 0x5 => .ok (.lvCmpGtH (fieldD w) (fieldA w) (fieldB w))
  | 0x6 => .ok (.lvCmpLeB (fieldD w) (fieldA w) (fieldB w))
  | 0x7 => .ok (.lvCmpLeH (fieldD w) (fieldA w) (fieldB w))
  | 0x8 => .ok (.lvCmpLtB (fieldD w) (fieldA w) (fieldB w))
  | 0x9 => .ok (.lvCmpLtH (fieldD w) (fieldA w) (fieldB w))
  | 0xA => .ok (.lvCmpNeB (fieldD w) (fieldA w) (fieldB w))
  | 0xB => .ok (.lvCmpNeH (fieldD w) (fieldA w) (fieldB w))
  | _ => .error (.unassignedMinor (w.extractLsb' 26 6))

/-- Major opcode 0x0A, minor opcodes 0x50 to 0x5F (R315). -/
def decodeVec5 (w : Word32) : Except Undecoded Instr :=
  match (w.extractLsb' 0 4).toNat with
  | 0x4 => .ok (.lvMaddsH (fieldD w) (fieldA w) (fieldB w))
  | 0x5 => .ok (.lvMaxB (fieldD w) (fieldA w) (fieldB w))
  | 0x6 => .ok (.lvMaxH (fieldD w) (fieldA w) (fieldB w))
  | 0x7 => .ok (.lvMergeB (fieldD w) (fieldA w) (fieldB w))
  | 0x8 => .ok (.lvMergeH (fieldD w) (fieldA w) (fieldB w))
  | 0x9 => .ok (.lvMinB (fieldD w) (fieldA w) (fieldB w))
  | 0xA => .ok (.lvMinH (fieldD w) (fieldA w) (fieldB w))
  | 0xB => .ok (.lvMsubsH (fieldD w) (fieldA w) (fieldB w))
  | 0xC => .ok (.lvMulsH (fieldD w) (fieldA w) (fieldB w))
  | 0xD => .ok (.lvNand (fieldD w) (fieldA w) (fieldB w))
  | 0xE => .ok (.lvNor (fieldD w) (fieldA w) (fieldB w))
  | 0xF => .ok (.lvOr (fieldD w) (fieldA w) (fieldB w))
  | _ => .error (.unassignedMinor (w.extractLsb' 26 6))

/-- Major opcode 0x0A, minor opcodes 0x60 to 0x6F (R315). -/
def decodeVec6 (w : Word32) : Except Undecoded Instr :=
  match (w.extractLsb' 0 4).toNat with
  | 0x0 => .ok (.lvPackB (fieldD w) (fieldA w) (fieldB w))
  | 0x1 => .ok (.lvPackH (fieldD w) (fieldA w) (fieldB w))
  | 0x2 => .ok (.lvPacksB (fieldD w) (fieldA w) (fieldB w))
  | 0x3 => .ok (.lvPacksH (fieldD w) (fieldA w) (fieldB w))
  | 0x4 => .ok (.lvPackusB (fieldD w) (fieldA w) (fieldB w))
  | 0x5 => .ok (.lvPackusH (fieldD w) (fieldA w) (fieldB w))
  | 0x6 => .ok (.lvPermN (fieldD w) (fieldA w) (fieldB w))
  | 0x7 => .ok (.lvRlB (fieldD w) (fieldA w) (fieldB w))
  | 0x8 => .ok (.lvRlH (fieldD w) (fieldA w) (fieldB w))
  | 0x9 => .ok (.lvSllB (fieldD w) (fieldA w) (fieldB w))
  | 0xA => .ok (.lvSllH (fieldD w) (fieldA w) (fieldB w))
  | 0xB => .ok (.lvSll (fieldD w) (fieldA w) (fieldB w))
  | 0xC => .ok (.lvSrlB (fieldD w) (fieldA w) (fieldB w))
  | 0xD => .ok (.lvSrlH (fieldD w) (fieldA w) (fieldB w))
  | 0xE => .ok (.lvSraB (fieldD w) (fieldA w) (fieldB w))
  | 0xF => .ok (.lvSraH (fieldD w) (fieldA w) (fieldB w))
  | _ => .error (.unassignedMinor (w.extractLsb' 26 6))

/-- Major opcode 0x0A, minor opcodes 0x70 to 0x7F (R315). -/
def decodeVec7 (w : Word32) : Except Undecoded Instr :=
  match (w.extractLsb' 0 4).toNat with
  | 0x0 => .ok (.lvSrl (fieldD w) (fieldA w) (fieldB w))
  | 0x1 => .ok (.lvSubB (fieldD w) (fieldA w) (fieldB w))
  | 0x2 => .ok (.lvSubH (fieldD w) (fieldA w) (fieldB w))
  | 0x3 => .ok (.lvSubsB (fieldD w) (fieldA w) (fieldB w))
  | 0x4 => .ok (.lvSubsH (fieldD w) (fieldA w) (fieldB w))
  | 0x5 => .ok (.lvSubuB (fieldD w) (fieldA w) (fieldB w))
  | 0x6 => .ok (.lvSubuH (fieldD w) (fieldA w) (fieldB w))
  | 0x7 => .ok (.lvSubusB (fieldD w) (fieldA w) (fieldB w))
  | 0x8 => .ok (.lvSubusH (fieldD w) (fieldA w) (fieldB w))
  | 0x9 => .ok (.lvUnpackB (fieldD w) (fieldA w) (fieldB w))
  | 0xA => .ok (.lvUnpackH (fieldD w) (fieldA w) (fieldB w))
  | 0xB => .ok (.lvXor (fieldD w) (fieldA w) (fieldB w))
  | _ => .error (.unassignedMinor (w.extractLsb' 26 6))

/-- Major opcode 0x0A, ORVDX64: the minor opcode in bits 7-0 (R315). What R820 says is not in it (32-bit and floating-point
elements, reductions, loads and stores, immediates and the rest) has no minor opcode here: every word of another minor opcode
is refused, and so an illegal instruction. -/
def decodeVec (w : Word32) : Except Undecoded Instr :=
  match (w.extractLsb' 4 4).toNat with
  | 0x1 => decodeVec1 w
  | 0x2 => decodeVec2 w
  | 0x3 => decodeVec3 w
  | 0x4 => decodeVec4 w
  | 0x5 => decodeVec5 w
  | 0x6 => decodeVec6 w
  | 0x7 => decodeVec7 w
  | 0xC => .ok .lvCust1
  | 0xD => .ok .lvCust2
  | 0xE => .ok .lvCust3
  | 0xF => .ok .lvCust4
  | _ => .error (.unassignedMinor (w.extractLsb' 26 6))

/-- Major opcode 0x05: bits 25-24 (R311). -/
def decodeNop (w : Word32) : Except Undecoded Instr :=
  if w.extractLsb' 24 2 = 1 then .ok (.lNop (fieldI w)) else .error (.unassignedMinor (w.extractLsb' 26 6))

/-- Major opcode 0x06: bit 16 (R311). -/
def decodeMovhi (w : Word32) : Except Undecoded Instr :=
  if w.extractLsb' 16 1 = 0 then .ok (.lMovhi (fieldD w) (fieldI w))
  else if w.extractLsb' 0 16 = 0 then .ok (.lMacrc (fieldD w))
  else .error (.unassignedMinor (w.extractLsb' 26 6))

/-- Major opcode 0x08: system call, trap and the barriers (R311, R563). -/
def decodeSys (w : Word32) : Except Undecoded Instr :=
  if w.extractLsb' 16 10 = 0 then .ok (.lSys (fieldI w))
  else if w.extractLsb' 16 10 = 0x100 then .ok (.lTrap (fieldI w))
  else if w = 0x22000000 then .ok .lMsync
  else if w = 0x22800000 then .ok .lPsync
  else if w = 0x23000000 then .ok .lCsync
  else .error (.unassignedMinor (w.extractLsb' 26 6))

/-- The instruction a word encodes (R303): by major opcode (R310), then by minor opcode. -/
def decodeWord (w : Word32) : Except Undecoded Instr :=
  match (w.extractLsb' 26 6).toNat with
  | 0x00 => .ok (.lJ (w.extractLsb' 0 26))
  | 0x01 => .ok (.lJal (w.extractLsb' 0 26))
  | 0x02 => .ok (.lAdrp (fieldD w) (w.extractLsb' 0 21))
  | 0x03 => .ok (.lBnf (w.extractLsb' 0 26))
  | 0x04 => .ok (.lBf (w.extractLsb' 0 26))
  | 0x05 => decodeNop w
  | 0x06 => decodeMovhi w
  | 0x08 => decodeSys w
  | 0x09 => .ok .lRfe
  | 0x0A => decodeVec w
  | 0x11 => .ok (.lJr (fieldB w))
  | 0x12 => .ok (.lJalr (fieldB w))
  | 0x13 => .ok (.lMaci (fieldA w) (fieldI w))
  | 0x1A => .ok (.lLf (fieldD w) (fieldA w) (fieldI w))
  | 0x1B => .ok (.lLwa (fieldD w) (fieldA w) (fieldI w))
  | 0x1C => .ok .lCust1
  | 0x1D => .ok .lCust2
  | 0x1E => .ok .lCust3
  | 0x1F => .ok .lCust4
  | 0x20 => .ok (.lLd (fieldD w) (fieldA w) (fieldI w))
  | 0x21 => .ok (.lLwz (fieldD w) (fieldA w) (fieldI w))
  | 0x22 => .ok (.lLws (fieldD w) (fieldA w) (fieldI w))
  | 0x23 => .ok (.lLbz (fieldD w) (fieldA w) (fieldI w))
  | 0x24 => .ok (.lLbs (fieldD w) (fieldA w) (fieldI w))
  | 0x25 => .ok (.lLhz (fieldD w) (fieldA w) (fieldI w))
  | 0x26 => .ok (.lLhs (fieldD w) (fieldA w) (fieldI w))
  | 0x27 => .ok (.lAddi (fieldD w) (fieldA w) (fieldI w))
  | 0x28 => .ok (.lAddic (fieldD w) (fieldA w) (fieldI w))
  | 0x29 => .ok (.lAndi (fieldD w) (fieldA w) (fieldI w))
  | 0x2A => .ok (.lOri (fieldD w) (fieldA w) (fieldI w))
  | 0x2B => .ok (.lXori (fieldD w) (fieldA w) (fieldI w))
  | 0x2C => .ok (.lMuli (fieldD w) (fieldA w) (fieldI w))
  | 0x2D => .ok (.lMfspr (fieldD w) (fieldA w) (fieldI w))
  | 0x2E => decodeShi w
  | 0x2F => decodeSfi w
  | 0x30 => .ok (.lMtspr (fieldA w) (fieldB w) (splitImm w))
  | 0x31 => decodeMac w
  | 0x32 => decodeFp w
  | 0x33 => .ok (.lSwa (fieldA w) (fieldB w) (splitImm w))
  | 0x34 => .ok (.lSd (fieldA w) (fieldB w) (splitImm w))
  | 0x35 => .ok (.lSw (fieldA w) (fieldB w) (splitImm w))
  | 0x36 => .ok (.lSb (fieldA w) (fieldB w) (splitImm w))
  | 0x37 => .ok (.lSh (fieldA w) (fieldB w) (splitImm w))
  | 0x38 => decodeAlu w
  | 0x39 => decodeSf w
  | 0x3C => .ok (.lCust5 (fieldD w) (fieldA w) (fieldB w) (w.extractLsb' 5 6) (w.extractLsb' 0 5))
  | 0x3D => .ok .lCust6
  | 0x3E => .ok .lCust7
  | 0x3F => .ok .lCust8
  | _ => .error (.unassignedMajor (w.extractLsb' 26 6))

/-- Four bytes as one word, the first the most significant (R202, R300). -/
def wordOfBytes (b0 b1 b2 b3 : Byte) : Word32 := b0 ++ b1 ++ b2 ++ b3

/-- The bytes of a word in the order the hardware stores them (R202). -/
def bytesOfWord (w : Word32) : List Byte :=
  [w.extractLsb' 24 8, w.extractLsb' 16 8, w.extractLsb' 8 8, w.extractLsb' 0 8]

/-- The instruction that bytes encode; anything but four bytes is refused (R300). -/
def decode : List Byte → Except Undecoded Instr
  | [b0, b1, b2, b3] => decodeWord (wordOfBytes b0 b1 b2 b3)
  | _ => .error .notFourBytes

/-- The instruction the decoder reads from an opcode-table word: its bits laid out as the hardware stores them. -/
def decodeTableWord (nbits w : Nat) : Option Instr :=
  match decode (bytesOfWord (BitVec.ofNat 32 (w % 2 ^ nbits))) with
  | .ok i => some i
  | .error _ => none

/-- Format `ALU` (R302). -/
def encAlu (d a b : RegNo) (hi : BitVec 2) (lo : BitVec 4) : Word32 :=
  0x38#6 ++ d ++ a ++ b ++ 0#1 ++ hi ++ 0#4 ++ lo
/-- Formats `ALUSH` and `EXT` (R302). -/
def encSub (d a b : RegNo) (hi lo : BitVec 4) : Word32 := 0x38#6 ++ d ++ a ++ b ++ 0#1 ++ hi ++ 0#2 ++ lo
/-- Formats `RRI` and `MACI`, `MOVHI` (R302): an opcode, two register fields, sixteen bits. -/
def encRri (op : BitVec 6) (d a : RegNo) (i : BitVec 16) : Word32 := op ++ d ++ a ++ i
/-- Format `STORE` (R302, R501). -/
def encStore (op : BitVec 6) (a b : RegNo) (i : BitVec 16) : Word32 :=
  op ++ i.extractLsb' 11 5 ++ a ++ b ++ i.extractLsb' 0 11
/-- Format `SHI` (R302). -/
def encShi (d a : RegNo) (op : BitVec 2) (l : BitVec 6) : Word32 := 0x2E#6 ++ d ++ a ++ 0#8 ++ op ++ l
/-- Format `SFI` (R302). -/
def encSfi (op : BitVec 5) (a : RegNo) (i : BitVec 16) : Word32 := 0x2F#6 ++ op ++ a ++ i
/-- Format `SF` (R302). -/
def encSf (op : BitVec 5) (a b : RegNo) : Word32 := 0x39#6 ++ op ++ a ++ b ++ 0#11
/-- Format `MAC` (R302). -/
def encMac (a b : RegNo) (op : BitVec 4) : Word32 := 0x31#6 ++ 0#5 ++ a ++ b ++ 0#7 ++ op
/-- Formats `FP3`, `FP2`, `FPC`, `FPCUST`, `V3` and `VCUST` (R302), with bits 10-8 given. -/
def encMinor (op : BitVec 6) (d a b : RegNo) (d2 a2 b2 : BitVec 1) (minor : BitVec 8) : Word32 :=
  op ++ d ++ a ++ b ++ d2 ++ a2 ++ b2 ++ minor
/-- Format `J` (R302). -/
def encJ (op : BitVec 6) (n : BitVec 26) : Word32 := op ++ n
/-- Format `JR` (R302). -/
def encJr (op : BitVec 6) (b : RegNo) : Word32 := op ++ 0#10 ++ b ++ 0#11

/-- The word of an instruction, its reserved bits 0 (R302, R321). -/
def encode : Instr → Word32
  | .lAdd d a b => encAlu d a b 0 0x0
  | .lAddc d a b => encAlu d a b 0 0x1
  | .lAddi d a i => encRri 0x27#6 d a i
  | .lAddic d a i => encRri 0x28#6 d a i
  | .lSub d a b => encAlu d a b 0 0x2
  | .lAnd d a b => encAlu d a b 0 0x3
  | .lAndi d a k => encRri 0x29#6 d a k
  | .lOr d a b => encAlu d a b 0 0x4
  | .lOri d a k => encRri 0x2A#6 d a k
  | .lXor d a b => encAlu d a b 0 0x5
  | .lXori d a i => encRri 0x2B#6 d a i
  | .lMovhi d k => encRri 0x06#6 d 0#5 k
  | .lAdrp d i => (0x02#6 ++ d ++ i : BitVec (6 + 5 + 21))
  | .lCmov d a b => encAlu d a b 0 0xE
  | .lSll d a b => encSub d a b 0 0x8
  | .lSlli d a l => encShi d a 0 l
  | .lSrl d a b => encSub d a b 1 0x8
  | .lSrli d a l => encShi d a 1 l
  | .lSra d a b => encSub d a b 2 0x8
  | .lSrai d a l => encShi d a 2 l
  | .lRor d a b => encSub d a b 3 0x8
  | .lRori d a l => encShi d a 3 l
  | .lMul d a b => encAlu d a b 3 0x6
  | .lMuli d a i => encRri 0x2C#6 d a i
  | .lMulu d a b => encAlu d a b 3 0xB
  | .lMuld a b => encAlu 0#5 a b 3 0x7
  | .lMuldu a b => encAlu 0#5 a b 3 0xC
  | .lDiv d a b => encAlu d a b 3 0x9
  | .lDivu d a b => encAlu d a b 3 0xA
  | .lExtbs d a => encSub d a 0#5 1 0xC
  | .lExtbz d a => encSub d a 0#5 3 0xC
  | .lExths d a => encSub d a 0#5 0 0xC
  | .lExthz d a => encSub d a 0#5 2 0xC
  | .lExtws d a => encSub d a 0#5 0 0xD
  | .lExtwz d a => encSub d a 0#5 1 0xD
  | .lFf1 d a => encAlu d a 0#5 0 0xF
  | .lFl1 d a => encAlu d a 0#5 1 0xF
  | .lSfeq a b => encSf 0x00#5 a b
  | .lSfne a b => encSf 0x01#5 a b
  | .lSfgtu a b => encSf 0x02#5 a b
  | .lSfgeu a b => encSf 0x03#5 a b
  | .lSfltu a b => encSf 0x04#5 a b
  | .lSfleu a b => encSf 0x05#5 a b
  | .lSfgts a b => encSf 0x0A#5 a b
  | .lSfges a b => encSf 0x0B#5 a b
  | .lSflts a b => encSf 0x0C#5 a b
  | .lSfles a b => encSf 0x0D#5 a b
  | .lSfeqi a i => encSfi 0x00#5 a i
  | .lSfnei a i => encSfi 0x01#5 a i
  | .lSfgtui a i => encSfi 0x02#5 a i
  | .lSfgeui a i => encSfi 0x03#5 a i
  | .lSfltui a i => encSfi 0x04#5 a i
  | .lSfleui a i => encSfi 0x05#5 a i
  | .lSfgtsi a i => encSfi 0x0A#5 a i
  | .lSfgesi a i => encSfi 0x0B#5 a i
  | .lSfltsi a i => encSfi 0x0C#5 a i
  | .lSflesi a i => encSfi 0x0D#5 a i
  | .lLbz d a i => encRri 0x23#6 d a i
  | .lLbs d a i => encRri 0x24#6 d a i
  | .lLhz d a i => encRri 0x25#6 d a i
  | .lLhs d a i => encRri 0x26#6 d a i
  | .lLwz d a i => encRri 0x21#6 d a i
  | .lLws d a i => encRri 0x22#6 d a i
  | .lLd d a i => encRri 0x20#6 d a i
  | .lLf d a i => encRri 0x1A#6 d a i
  | .lLwa d a i => encRri 0x1B#6 d a i
  | .lSb a b i => encStore 0x36#6 a b i
  | .lSh a b i => encStore 0x37#6 a b i
  | .lSw a b i => encStore 0x35#6 a b i
  | .lSd a b i => encStore 0x34#6 a b i
  | .lSwa a b i => encStore 0x33#6 a b i
  | .lBf n => encJ 0x04#6 n
  | .lBnf n => encJ 0x03#6 n
  | .lJ n => encJ 0x00#6 n
  | .lJal n => encJ 0x01#6 n
  | .lJr b => encJr 0x11#6 b
  | .lJalr b => encJr 0x12#6 b
  | .lNop k => (0x15#8 ++ 0#8 ++ k : BitVec (8 + 8 + 16))
  | .lSys k => (0x2000#16 ++ k : BitVec (16 + 16))
  | .lTrap k => (0x2100#16 ++ k : BitVec (16 + 16))
  | .lRfe => (0x09#6 ++ 0#26 : BitVec (6 + 26))
  | .lMfspr d a k => encRri 0x2D#6 d a k
  | .lMtspr a b k => encStore 0x30#6 a b k
  | .lMsync => 0x22000000#32
  | .lPsync => 0x22800000#32
  | .lCsync => 0x23000000#32
  | .lMac a b => encMac a b 0x1
  | .lMaci a i => encRri 0x13#6 0#5 a i
  | .lMacu a b => encMac a b 0x3
  | .lMsb a b => encMac a b 0x2
  | .lMsbu a b => encMac a b 0x4
  | .lMacrc d => encRri 0x06#6 d 1#5 0#16
  | .lfAddS d a b => encMinor 0x32#6 d a b 0#1 0#1 0#1 0x00#8
  | .lfSubS d a b => encMinor 0x32#6 d a b 0#1 0#1 0#1 0x01#8
  | .lfMulS d a b => encMinor 0x32#6 d a b 0#1 0#1 0#1 0x02#8
  | .lfDivS d a b => encMinor 0x32#6 d a b 0#1 0#1 0#1 0x03#8
  | .lfItofS d a => encMinor 0x32#6 d a 0#5 0#1 0#1 0#1 0x04#8
  | .lfFtoiS d a => encMinor 0x32#6 d a 0#5 0#1 0#1 0#1 0x05#8
  | .lfMaddS a b => encMinor 0x32#6 0#5 a b 0#1 0#1 0#1 0x07#8
  | .lfSfeqS a b => encMinor 0x32#6 0#5 a b 0#1 0#1 0#1 0x08#8
  | .lfSfneS a b => encMinor 0x32#6 0#5 a b 0#1 0#1 0#1 0x09#8
  | .lfSfgtS a b => encMinor 0x32#6 0#5 a b 0#1 0#1 0#1 0x0A#8
  | .lfSfgeS a b => encMinor 0x32#6 0#5 a b 0#1 0#1 0#1 0x0B#8
  | .lfSfltS a b => encMinor 0x32#6 0#5 a b 0#1 0#1 0#1 0x0C#8
  | .lfSfleS a b => encMinor 0x32#6 0#5 a b 0#1 0#1 0#1 0x0D#8
  | .lfSfueqS a b => encMinor 0x32#6 0#5 a b 0#1 0#1 0#1 0x28#8
  | .lfSfuneS a b => encMinor 0x32#6 0#5 a b 0#1 0#1 0#1 0x29#8
  | .lfSfugtS a b => encMinor 0x32#6 0#5 a b 0#1 0#1 0#1 0x2A#8
  | .lfSfugeS a b => encMinor 0x32#6 0#5 a b 0#1 0#1 0#1 0x2B#8
  | .lfSfultS a b => encMinor 0x32#6 0#5 a b 0#1 0#1 0#1 0x2C#8
  | .lfSfuleS a b => encMinor 0x32#6 0#5 a b 0#1 0#1 0#1 0x2D#8
  | .lfSfunS a b => encMinor 0x32#6 0#5 a b 0#1 0#1 0#1 0x2E#8
  | .lfCust1S a b => encMinor 0x32#6 0#5 a b 0#1 0#1 0#1 0xD0#8
  | .lfAddD d a b d2 a2 b2 => encMinor 0x32#6 d a b d2 a2 b2 0x10#8
  | .lfSubD d a b d2 a2 b2 => encMinor 0x32#6 d a b d2 a2 b2 0x11#8
  | .lfMulD d a b d2 a2 b2 => encMinor 0x32#6 d a b d2 a2 b2 0x12#8
  | .lfDivD d a b d2 a2 b2 => encMinor 0x32#6 d a b d2 a2 b2 0x13#8
  | .lfItofD d a d2 a2 => encMinor 0x32#6 d a 0#5 d2 a2 0#1 0x14#8
  | .lfFtoiD d a d2 a2 => encMinor 0x32#6 d a 0#5 d2 a2 0#1 0x15#8
  | .lfStodD d a d2 => encMinor 0x32#6 d a 0#5 d2 0#1 0#1 0x34#8
  | .lfDtosD d a a2 => encMinor 0x32#6 d a 0#5 0#1 a2 0#1 0x35#8
  | .lfMaddD a b a2 b2 => encMinor 0x32#6 0#5 a b 0#1 a2 b2 0x17#8
  | .lfSfeqD a b a2 b2 => encMinor 0x32#6 0#5 a b 0#1 a2 b2 0x18#8
  | .lfSfneD a b a2 b2 => encMinor 0x32#6 0#5 a b 0#1 a2 b2 0x19#8
  | .lfSfgtD a b a2 b2 => encMinor 0x32#6 0#5 a b 0#1 a2 b2 0x1A#8
  | .lfSfgeD a b a2 b2 => encMinor 0x32#6 0#5 a b 0#1 a2 b2 0x1B#8
  | .lfSfltD a b a2 b2 => encMinor 0x32#6 0#5 a b 0#1 a2 b2 0x1C#8
  | .lfSfleD a b a2 b2 => encMinor 0x32#6 0#5 a b 0#1 a2 b2 0x1D#8
  | .lfSfueqD a b a2 b2 => encMinor 0x32#6 0#5 a b 0#1 a2 b2 0x38#8
  | .lfSfuneD a b a2 b2 => encMinor 0x32#6 0#5 a b 0#1 a2 b2 0x39#8
  | .lfSfugtD a b a2 b2 => encMinor 0x32#6 0#5 a b 0#1 a2 b2 0x3A#8
  | .lfSfugeD a b a2 b2 => encMinor 0x32#6 0#5 a b 0#1 a2 b2 0x3B#8
  | .lfSfultD a b a2 b2 => encMinor 0x32#6 0#5 a b 0#1 a2 b2 0x3C#8
  | .lfSfuleD a b a2 b2 => encMinor 0x32#6 0#5 a b 0#1 a2 b2 0x3D#8
  | .lfSfunD a b a2 b2 => encMinor 0x32#6 0#5 a b 0#1 a2 b2 0x3E#8
  | .lfCust1D a b => encMinor 0x32#6 0#5 a b 0#1 0#1 0#1 0xE0#8
  | .lvAddB d a b => encMinor 0x0A#6 d a b 0#1 0#1 0#1 0x30#8
  | .lvAddH d a b => encMinor 0x0A#6 d a b 0#1 0#1 0#1 0x31#8
  | .lvAddsB d a b => encMinor 0x0A#6 d a b 0#1 0#1 0#1 0x32#8
  | .lvAddsH d a b => encMinor 0x0A#6 d a b 0#1 0#1 0#1 0x33#8
  | .lvAdduB d a b => encMinor 0x0A#6 d a b 0#1 0#1 0#1 0x34#8
  | .lvAdduH d a b => encMinor 0x0A#6 d a b 0#1 0#1 0#1 0x35#8
  | .lvAddusB d a b => encMinor 0x0A#6 d a b 0#1 0#1 0#1 0x36#8
  | .lvAddusH d a b => encMinor 0x0A#6 d a b 0#1 0#1 0#1 0x37#8
  | .lvAllEqB d a b => encMinor 0x0A#6 d a b 0#1 0#1 0#1 0x10#8
  | .lvAllEqH d a b => encMinor 0x0A#6 d a b 0#1 0#1 0#1 0x11#8
  | .lvAllGeB d a b => encMinor 0x0A#6 d a b 0#1 0#1 0#1 0x12#8
  | .lvAllGeH d a b => encMinor 0x0A#6 d a b 0#1 0#1 0#1 0x13#8
  | .lvAllGtB d a b => encMinor 0x0A#6 d a b 0#1 0#1 0#1 0x14#8
  | .lvAllGtH d a b => encMinor 0x0A#6 d a b 0#1 0#1 0#1 0x15#8
  | .lvAllLeB d a b => encMinor 0x0A#6 d a b 0#1 0#1 0#1 0x16#8
  | .lvAllLeH d a b => encMinor 0x0A#6 d a b 0#1 0#1 0#1 0x17#8
  | .lvAllLtB d a b => encMinor 0x0A#6 d a b 0#1 0#1 0#1 0x18#8
  | .lvAllLtH d a b => encMinor 0x0A#6 d a b 0#1 0#1 0#1 0x19#8
  | .lvAllNeB d a b => encMinor 0x0A#6 d a b 0#1 0#1 0#1 0x1A#8
  | .lvAllNeH d a b => encMinor 0x0A#6 d a b 0#1 0#1 0#1 0x1B#8
  | .lvAnd d a b => encMinor 0x0A#6 d a b 0#1 0#1 0#1 0x38#8
  | .lvAnyEqB d a b => encMinor 0x0A#6 d a b 0#1 0#1 0#1 0x20#8
  | .lvAnyEqH d a b => encMinor 0x0A#6 d a b 0#1 0#1 0#1 0x21#8
  | .lvAnyGeB d a b => encMinor 0x0A#6 d a b 0#1 0#1 0#1 0x22#8
  | .lvAnyGeH d a b => encMinor 0x0A#6 d a b 0#1 0#1 0#1 0x23#8
  | .lvAnyGtB d a b => encMinor 0x0A#6 d a b 0#1 0#1 0#1 0x24#8
  | .lvAnyGtH d a b => encMinor 0x0A#6 d a b 0#1 0#1 0#1 0x25#8
  | .lvAnyLeB d a b => encMinor 0x0A#6 d a b 0#1 0#1 0#1 0x26#8
  | .lvAnyLeH d a b => encMinor 0x0A#6 d a b 0#1 0#1 0#1 0x27#8
  | .lvAnyLtB d a b => encMinor 0x0A#6 d a b 0#1 0#1 0#1 0x28#8
  | .lvAnyLtH d a b => encMinor 0x0A#6 d a b 0#1 0#1 0#1 0x29#8
  | .lvAnyNeB d a b => encMinor 0x0A#6 d a b 0#1 0#1 0#1 0x2A#8
  | .lvAnyNeH d a b => encMinor 0x0A#6 d a b 0#1 0#1 0#1 0x2B#8
  | .lvAvgB d a b => encMinor 0x0A#6 d a b 0#1 0#1 0#1 0x39#8
  | .lvAvgH d a b => encMinor 0x0A#6 d a b 0#1 0#1 0#1 0x3A#8
  | .lvCmpEqB d a b => encMinor 0x0A#6 d a b 0#1 0#1 0#1 0x40#8
  | .lvCmpEqH d a b => encMinor 0x0A#6 d a b 0#1 0#1 0#1 0x41#8
  | .lvCmpGeB d a b => encMinor 0x0A#6 d a b 0#1 0#1 0#1 0x42#8
  | .lvCmpGeH d a b => encMinor 0x0A#6 d a b 0#1 0#1 0#1 0x43#8
  | .lvCmpGtB d a b => encMinor 0x0A#6 d a b 0#1 0#1 0#1 0x44#8
  | .lvCmpGtH d a b => encMinor 0x0A#6 d a b 0#1 0#1 0#1 0x45#8
  | .lvCmpLeB d a b => encMinor 0x0A#6 d a b 0#1 0#1 0#1 0x46#8
  | .lvCmpLeH d a b => encMinor 0x0A#6 d a b 0#1 0#1 0#1 0x47#8
  | .lvCmpLtB d a b => encMinor 0x0A#6 d a b 0#1 0#1 0#1 0x48#8
  | .lvCmpLtH d a b => encMinor 0x0A#6 d a b 0#1 0#1 0#1 0x49#8
  | .lvCmpNeB d a b => encMinor 0x0A#6 d a b 0#1 0#1 0#1 0x4A#8
  | .lvCmpNeH d a b => encMinor 0x0A#6 d a b 0#1 0#1 0#1 0x4B#8
  | .lvMaddsH d a b => encMinor 0x0A#6 d a b 0#1 0#1 0#1 0x54#8
  | .lvMsubsH d a b => encMinor 0x0A#6 d a b 0#1 0#1 0#1 0x5B#8
  | .lvMulsH d a b => encMinor 0x0A#6 d a b 0#1 0#1 0#1 0x5C#8
  | .lvMaxB d a b => encMinor 0x0A#6 d a b 0#1 0#1 0#1 0x55#8
  | .lvMaxH d a b => encMinor 0x0A#6 d a b 0#1 0#1 0#1 0x56#8
  | .lvMinB d a b => encMinor 0x0A#6 d a b 0#1 0#1 0#1 0x59#8
  | .lvMinH d a b => encMinor 0x0A#6 d a b 0#1 0#1 0#1 0x5A#8
  | .lvMergeB d a b => encMinor 0x0A#6 d a b 0#1 0#1 0#1 0x57#8
  | .lvMergeH d a b => encMinor 0x0A#6 d a b 0#1 0#1 0#1 0x58#8
  | .lvNand d a b => encMinor 0x0A#6 d a b 0#1 0#1 0#1 0x5D#8
  | .lvNor d a b => encMinor 0x0A#6 d a b 0#1 0#1 0#1 0x5E#8
  | .lvOr d a b => encMinor 0x0A#6 d a b 0#1 0#1 0#1 0x5F#8
  | .lvXor d a b => encMinor 0x0A#6 d a b 0#1 0#1 0#1 0x7B#8
  | .lvPackB d a b => encMinor 0x0A#6 d a b 0#1 0#1 0#1 0x60#8
  | .lvPackH d a b => encMinor 0x0A#6 d a b 0#1 0#1 0#1 0x61#8
  | .lvPacksB d a b => encMinor 0x0A#6 d a b 0#1 0#1 0#1 0x62#8
  | .lvPacksH d a b => encMinor 0x0A#6 d a b 0#1 0#1 0#1 0x63#8
  | .lvPackusB d a b => encMinor 0x0A#6 d a b 0#1 0#1 0#1 0x64#8
  | .lvPackusH d a b => encMinor 0x0A#6 d a b 0#1 0#1 0#1 0x65#8
  | .lvPermN d a b => encMinor 0x0A#6 d a b 0#1 0#1 0#1 0x66#8
  | .lvUnpackB d a b => encMinor 0x0A#6 d a b 0#1 0#1 0#1 0x79#8
  | .lvUnpackH d a b => encMinor 0x0A#6 d a b 0#1 0#1 0#1 0x7A#8
  | .lvRlB d a b => encMinor 0x0A#6 d a b 0#1 0#1 0#1 0x67#8
  | .lvRlH d a b => encMinor 0x0A#6 d a b 0#1 0#1 0#1 0x68#8
  | .lvSllB d a b => encMinor 0x0A#6 d a b 0#1 0#1 0#1 0x69#8
  | .lvSllH d a b => encMinor 0x0A#6 d a b 0#1 0#1 0#1 0x6A#8
  | .lvSll d a b => encMinor 0x0A#6 d a b 0#1 0#1 0#1 0x6B#8
  | .lvSrlB d a b => encMinor 0x0A#6 d a b 0#1 0#1 0#1 0x6C#8
  | .lvSrlH d a b => encMinor 0x0A#6 d a b 0#1 0#1 0#1 0x6D#8
  | .lvSraB d a b => encMinor 0x0A#6 d a b 0#1 0#1 0#1 0x6E#8
  | .lvSraH d a b => encMinor 0x0A#6 d a b 0#1 0#1 0#1 0x6F#8
  | .lvSrl d a b => encMinor 0x0A#6 d a b 0#1 0#1 0#1 0x70#8
  | .lvSubB d a b => encMinor 0x0A#6 d a b 0#1 0#1 0#1 0x71#8
  | .lvSubH d a b => encMinor 0x0A#6 d a b 0#1 0#1 0#1 0x72#8
  | .lvSubsB d a b => encMinor 0x0A#6 d a b 0#1 0#1 0#1 0x73#8
  | .lvSubsH d a b => encMinor 0x0A#6 d a b 0#1 0#1 0#1 0x74#8
  | .lvSubuB d a b => encMinor 0x0A#6 d a b 0#1 0#1 0#1 0x75#8
  | .lvSubuH d a b => encMinor 0x0A#6 d a b 0#1 0#1 0#1 0x76#8
  | .lvSubusB d a b => encMinor 0x0A#6 d a b 0#1 0#1 0#1 0x77#8
  | .lvSubusH d a b => encMinor 0x0A#6 d a b 0#1 0#1 0#1 0x78#8
  | .lCust1 => (0x1C#6 ++ 0#26 : BitVec (6 + 26))
  | .lCust2 => (0x1D#6 ++ 0#26 : BitVec (6 + 26))
  | .lCust3 => (0x1E#6 ++ 0#26 : BitVec (6 + 26))
  | .lCust4 => (0x1F#6 ++ 0#26 : BitVec (6 + 26))
  | .lCust5 d a b l k => (0x3C#6 ++ d ++ a ++ b ++ l ++ k : BitVec (6 + 5 + 5 + 5 + 6 + 5))
  | .lCust6 => (0x3D#6 ++ 0#26 : BitVec (6 + 26))
  | .lCust7 => (0x3E#6 ++ 0#26 : BitVec (6 + 26))
  | .lCust8 => (0x3F#6 ++ 0#26 : BitVec (6 + 26))
  | .lvCust1 => encMinor 0x0A#6 0#5 0#5 0#5 0#1 0#1 0#1 0xC0#8
  | .lvCust2 => encMinor 0x0A#6 0#5 0#5 0#5 0#1 0#1 0#1 0xD0#8
  | .lvCust3 => encMinor 0x0A#6 0#5 0#5 0#5 0#1 0#1 0#1 0xE0#8
  | .lvCust4 => encMinor 0x0A#6 0#5 0#5 0#5 0#1 0#1 0#1 0xF0#8

end Sys2Proof
end

