-- ==== Sys2Proof/Config.lean ====
section
/-! DEFINITION. What an implementation fixes: the parameters of R9 as plain data, and the free values, which nothing in
Lean can evaluate. The default values stand in `Sys2Proof/Machine/Platform.lean`. -/

namespace Sys2Proof

/-- The width of the general registers and effective addresses, `XLEN` (R9). -/
inductive Xlen where
  /-- 32-bit implementation (ORBIS32). -/
  | x32
  /-- 64-bit implementation (ORBIS32 and ORBIS64). -/
  | x64
deriving DecidableEq, Repr

/-- The class II instructions, each of which an implementation may leave out (R3, R9 `CLASS2`). `l.lwa` and `l.swa` are
not here: they exist both or neither, `Config.atomics` (R516). -/
inductive Class2 where
  /-- `l.adrp` -/
  | lAdrp
  /-- `l.cmov` -/
  | lCmov
  /-- `l.ror` -/
  | lRor
  /-- `l.rori` -/
  | lRori
  /-- `l.mul` -/
  | lMul
  /-- `l.muli` -/
  | lMuli
  /-- `l.mulu` -/
  | lMulu
  /-- `l.muld` -/
  | lMuld
  /-- `l.muldu` -/
  | lMuldu
  /-- `l.div` -/
  | lDiv
  /-- `l.divu` -/
  | lDivu
  /-- `l.extbs` -/
  | lExtbs
  /-- `l.extbz` -/
  | lExtbz
  /-- `l.exths` -/
  | lExths
  /-- `l.exthz` -/
  | lExthz
  /-- `l.extws` -/
  | lExtws
  /-- `l.extwz` -/
  | lExtwz
  /-- `l.ff1` -/
  | lFf1
  /-- `l.fl1` -/
  | lFl1
  /-- `l.trap` -/
  | lTrap
  /-- `l.msync` -/
  | lMsync
  /-- `l.psync` -/
  | lPsync
  /-- `l.csync` -/
  | lCsync
  /-- `l.mac` -/
  | lMac
  /-- `l.maci` -/
  | lMaci
  /-- `l.macu` -/
  | lMacu
  /-- `l.msb` -/
  | lMsb
  /-- `l.msbu` -/
  | lMsbu
  /-- `l.macrc` -/
  | lMacrc
  /-- `lf.div.s` -/
  | lfDivS
  /-- `lf.madd.s` -/
  | lfMaddS
  /-- `lf.sfeq.s` -/
  | lfSfeqS
  /-- `lf.sfne.s` -/
  | lfSfneS
  /-- `lf.sfgt.s` -/
  | lfSfgtS
  /-- `lf.sfge.s` -/
  | lfSfgeS
  /-- `lf.sfueq.s` -/
  | lfSfueqS
  /-- `lf.sfune.s` -/
  | lfSfuneS
  /-- `lf.sfugt.s` -/
  | lfSfugtS
  /-- `lf.sfuge.s` -/
  | lfSfugeS
  /-- `lf.sfult.s` -/
  | lfSfultS
  /-- `lf.sfule.s` -/
  | lfSfuleS
  /-- `lf.sfun.s` -/
  | lfSfunS
  /-- `lf.cust1.s` -/
  | lfCust1S
  /-- `lf.mul.d` -/
  | lfMulD
  /-- `lf.div.d` -/
  | lfDivD
  /-- `lf.stod.d` -/
  | lfStodD
  /-- `lf.dtos.d` -/
  | lfDtosD
  /-- `lf.madd.d` -/
  | lfMaddD
  /-- `lf.sfueq.d` -/
  | lfSfueqD
  /-- `lf.sfune.d` -/
  | lfSfuneD
  /-- `lf.sfugt.d` -/
  | lfSfugtD
  /-- `lf.sfuge.d` -/
  | lfSfugeD
  /-- `lf.sfult.d` -/
  | lfSfultD
  /-- `lf.sfule.d` -/
  | lfSfuleD
  /-- `lf.sfun.d` -/
  | lfSfunD
  /-- `lf.cust1.d` -/
  | lfCust1D
  /-- `lv.muls.h` -/
  | lvMulsH
  /-- `l.cust5` -/
  | lCust5
  /-- `l.cust6` -/
  | lCust6
  /-- `l.cust7` -/
  | lCust7
  /-- `l.cust8` -/
  | lCust8
  /-- `lv.cust1` -/
  | lvCust1
  /-- `lv.cust2` -/
  | lvCust2
  /-- `lv.cust3` -/
  | lvCust3
  /-- `lv.cust4` -/
  | lvCust4
deriving DecidableEq, Repr

/-- Geometry and options of one MMU, as DMMUCFGR and IMMUCFGR report them (R55). -/
structure MmuConfig where
  /-- NTW: TLB ways minus one. -/
  ntw : BitVec 2
  /-- NTS: log2 of the TLB sets. -/
  nts : BitVec 3
  /-- NAE: ATB entries, 0 to 4. -/
  nae : BitVec 3
  /-- CRI: the control register exists. -/
  cri : Bool
  /-- PRI: the protection register exists. -/
  pri : Bool
  /-- TEIRI: the entry invalidate register exists. -/
  teiri : Bool
  /-- HTR: the TLB is reloaded by hardware. -/
  htr : Bool
deriving DecidableEq, Repr

/-- Geometry and options of one cache, as DCCFGR and ICCFGR report them (R52, R53). -/
structure CacheConfig where
  /-- NCW: log2 of the ways. -/
  ncw : BitVec 3
  /-- NCS: log2 of the sets. -/
  ncs : BitVec 4
  /-- CBS: 32-byte blocks instead of 16-byte ones. -/
  cbs : Bool
  /-- CWS: write-back instead of write-through (data cache only). -/
  cws : Bool
  /-- CCRI: the control register exists. -/
  ccri : Bool
  /-- CBIRI: the block invalidate register exists. -/
  cbiri : Bool
  /-- CBPRI: the block prefetch register exists. -/
  cbpri : Bool
  /-- CBLRI: the block lock register exists. -/
  cblri : Bool
  /-- CBFRI: the block flush register exists (data cache only). -/
  cbfri : Bool
  /-- CBWBRI: the block write-back register exists (data cache only). -/
  cbwbri : Bool
deriving DecidableEq, Repr

/-- A range of physical addresses and the kinds of access that answer there: `valid_pa` of R215 and R216 is a list of
these (log 20). -/
structure Region where
  /-- First physical address. -/
  base : Nat
  /-- Number of bytes. -/
  size : Nat
  /-- Instruction fetches answer. -/
  fetch : Bool
  /-- Loads answer. -/
  load : Bool
  /-- Stores answer. -/
  store : Bool
deriving DecidableEq, Repr

/-- Where the platform's OMPIC stands and which PIC input it drives (R910, `OMPIC_BASE`, `OMPIC_IRQ`). -/
structure OmpicConfig where
  /-- Physical base address. -/
  base : Nat
  /-- Number of the PIC input line. -/
  irq : BitVec 5
deriving DecidableEq, Repr

/-- The custom instructions (R323). -/
inductive CustomOp where
  /-- `l.cust1`. -/
  | lCust1
  /-- `l.cust2`. -/
  | lCust2
  /-- `l.cust3`. -/
  | lCust3
  /-- `l.cust4`. -/
  | lCust4
  /-- `l.cust5`. -/
  | lCust5
  /-- `l.cust6`. -/
  | lCust6
  /-- `l.cust7`. -/
  | lCust7
  /-- `l.cust8`. -/
  | lCust8
  /-- `lf.cust1.s`. -/
  | lfCust1S
  /-- `lf.cust1.d`. -/
  | lfCust1D
  /-- `lv.cust1`. -/
  | lvCust1
  /-- `lv.cust2`. -/
  | lvCust2
  /-- `lv.cust3`. -/
  | lvCust3
  /-- `lv.cust4`. -/
  | lvCust4
deriving DecidableEq, Repr

/-- The implementation parameters of R9. The machine holds one value of this type in its state and no step changes it;
every meaning is written for every value of it (log 1). -/
structure Config where
  /-- `XLEN`. -/
  xlen : Xlen
  /-- `NGPR`: implemented general registers, 32 or 16. -/
  ngpr : Nat
  /-- `NSGF`: shadow register files. -/
  nsgf : BitVec 4
  /-- `ND`: no delay slot. -/
  nd : Bool
  /-- `HAS_ORFPX32`. -/
  orfpx32 : Bool
  /-- `HAS_ORFPX64`. -/
  orfpx64 : Bool
  /-- `HAS_ORFPX64A32`. -/
  orfpx64a32 : Bool
  /-- `HAS_ORVDX64`. -/
  orvdx64 : Bool
  /-- `CLASS2`, as the list of the class II instructions the implementation leaves out. -/
  class2Absent : List Class2
  /-- `l.lwa` and `l.swa` are implemented: both or neither (R516). -/
  atomics : Bool
  /-- `HAS_AVR`. -/
  hasAvr : Bool
  /-- `HAS_EVBAR`. -/
  hasEvbar : Bool
  /-- `HAS_ISR`. -/
  hasIsr : Bool
  /-- `HAS_AECR_AESR`. -/
  hasAecr : Bool
  /-- `HAS_VR2`. -/
  hasVr2 : Bool
  /-- `HAS_DC`. -/
  hasDc : Bool
  /-- `HAS_IC`. -/
  hasIc : Bool
  /-- `HAS_DMMU`. -/
  hasDmmu : Bool
  /-- `HAS_IMMU`. -/
  hasImmu : Bool
  /-- `HAS_MAC`. -/
  hasMac : Bool
  /-- `HAS_DU`. -/
  hasDu : Bool
  /-- `HAS_PCU`. -/
  hasPcu : Bool
  /-- `HAS_PM`. -/
  hasPm : Bool
  /-- `HAS_PIC`. -/
  hasPic : Bool
  /-- `HAS_TT`. -/
  hasTt : Bool
  /-- `CUP`: the custom units reported in UPR. -/
  cup : BitVec 8
  /-- `HAS_CFG_REGS`: UPR and the configuration registers are implemented. -/
  hasCfgRegs : Bool
  /-- `VR_VER`. -/
  vrVer : BitVec 8
  /-- `VR_CFG`. -/
  vrCfg : BitVec 8
  /-- `VR_REV`. -/
  vrRev : BitVec 6
  /-- `VR2_CPUID`. -/
  vr2Cpuid : BitVec 8
  /-- `VR2_VER`. -/
  vr2Ver : BitVec 24
  /-- `AVR_MAJ`. -/
  avrMaj : BitVec 8
  /-- `AVR_MIN`. -/
  avrMin : BitVec 8
  /-- `AVR_REV`. -/
  avrRev : BitVec 8
  /-- ISR0 to ISR7 (R62). -/
  isr : Vector Word32 (2 ^ 3)
  /-- The data MMU. -/
  dmmu : MmuConfig
  /-- The instruction MMU. -/
  immu : MmuConfig
  /-- One MMU serves both sides: groups 1 and 2 are one set of registers (R111). -/
  unifiedMmu : Bool
  /-- The data cache. -/
  dc : CacheConfig
  /-- The instruction cache. -/
  ic : CacheConfig
  /-- One cache serves both sides: groups 3 and 4 are one set of registers (R295). -/
  unifiedCache : Bool
  /-- `NDP`: debug pairs minus one. -/
  ndp : BitVec 3
  /-- `WPCI`: watchpoint counters exist. -/
  wpci : Bool
  /-- `NPC_CNT` minus one: performance counters minus one. -/
  npcCnt : BitVec 3
  /-- `PA_BITS`. -/
  paBits : Nat
  /-- `LEE_IMPL`. -/
  leeImpl : Bool
  /-- `UNALIGNED_OK`. -/
  unalignedOk : Bool
  /-- `EVBAR_RESET`. -/
  evbarReset : Word32
  /-- `COREID`. -/
  coreId : Nat
  /-- `NUMCORES`. -/
  numCores : Nat
  /-- `STRONG_ORDER`: what the implementation promises other observers; the model of one core is strongly ordered
  whatever it says (R225, log 28). -/
  strongOrder : Bool
  /-- `valid_pa`. -/
  validPa : List Region
  /-- `PIC_EDGE_MASK`. -/
  picEdge : Word32
  /-- `PIC_FIXED_MASK`; only bits 1 and 0 count (R180). -/
  picFixed : Word32
  /-- `OMPIC_BASE` and `OMPIC_IRQ`, when the platform has an OMPIC. -/
  ompic : Option OmpicConfig
  /-- `CUSTOM_INSN`: the custom instructions for which the implementation supplies a function; what the function does is
  `Machine.customFunction` (R580, log 19). -/
  customInsn : List CustomOp
  /-- The hardware walk writes the accessed and dirty bits back to the page table in memory: the spec leaves this to the
  implementation (R275, log 16). -/
  htrWriteBack : Bool
  /-- Which of two rules that contradict each other l.movhi follows on XLEN = 64: bits 63-32 repeat bit 31 (the table of
  R304) when it is true, and are zero (R413) when it is false (DESIGN CHOICE, log 13). -/
  movhiSigned : Bool
deriving DecidableEq, Repr

/-- A value the spec leaves open, one for each draw: the machine counts the draws and applies this to the count (log 8). -/
opaque Config.freeValue : Nat → BitVec 64

/-- Bits 45 to 32 of the page number that a TLB or ATB match register holds on XLEN = 64, as a function of the
register: R272 says that they take part and not where they are held (log 15). -/
opaque Config.vpnHigh : Word32 → BitVec 14

/-- The physical page number bits above bit 31 that a TLB translate register holds on XLEN = 64, as a function of the
register: R266 leaves open how a wider physical address is held (log 15). -/
opaque Config.ppnHigh : Word32 → BitVec 3

/-- Where the page tables of a context other than 0 stand, as a function of xMMUCR and SR[CID]: R274 gives every context
its own tables and does not say where (R275, log 16). -/
opaque Config.contextTables : Word32 → BitVec 4 → Nat

/-- The page number that the 19-bit field of a TLB translate register holds for the 22-bit page number of a PTE that does
not fit: R275 does not state it (log 16). -/
opaque Config.narrowFrame : BitVec 22 → BitVec 19

end Sys2Proof
end

