-- ==== Sys2Proof/Machine/Presence.lean ====
section
/-! DEFINITION. Which instructions a configuration implements and which registers an instruction names (R322, R883). -/

namespace Sys2Proof.Machine

/-- Double-precision instructions exist: ORFPX64 on XLEN = 64, ORFPX64A32 on XLEN = 32 (R600). -/
def hasDouble (c : Config) : Bool :=
  match c.xlen with
  | .x32 => c.orfpx64a32
  | .x64 => c.orfpx64

/-- Some floating-point subset exists: FPCSR is implemented (R45), and with it FPMADDLO and FPMADDHI, for which R48 states
no condition (log 45). -/
def hasFp (c : Config) : Bool := c.orfpx32 || c.orfpx64 || c.orfpx64a32

/-- The vector subset exists: only on XLEN = 64 (R700, D9). -/
def hasVector (c : Config) : Bool := c.xlen == .x64 && c.orvdx64

/-- There is an instruction MMU; a unified MMU is the data side's (R51, R111, log 39). -/
def hasInsnMmu (c : Config) : Bool := if c.unifiedMmu then c.hasDmmu else c.hasImmu

/-- There is an instruction cache; a unified cache is the data side's (R51, R295, log 39). -/
def hasInsnCache (c : Config) : Bool := if c.unifiedCache then c.hasDc else c.hasIc

/-- The geometry and options of the instruction cache (R53, R295, log 39). -/
def insnCache (c : Config) : CacheConfig := if c.unifiedCache then c.dc else c.ic

/-- The subset and the unit an instruction needs are there (R322 (a) and (c), R516, R569, R600, R700, R323). -/
def subsetPresent (c : Config) : Instr → Bool
  | .lLd .. | .lSd .. => c.xlen == .x64
  | .lLwa .. | .lSwa .. => c.atomics
  | .lMuld .. | .lMuldu .. | .lMac .. | .lMaci .. | .lMacu .. | .lMsb ..
  | .lMsbu .. | .lMacrc .. => c.hasMac
  | .lCust1 => c.customInsn.contains .lCust1
  | .lCust2 => c.customInsn.contains .lCust2
  | .lCust3 => c.customInsn.contains .lCust3
  | .lCust4 => c.customInsn.contains .lCust4
  | .lCust5 .. => c.customInsn.contains .lCust5
  | .lCust6 => c.customInsn.contains .lCust6
  | .lCust7 => c.customInsn.contains .lCust7
  | .lCust8 => c.customInsn.contains .lCust8
  | .lfCust1S .. => c.orfpx32 && c.customInsn.contains .lfCust1S
  | .lfCust1D .. => hasDouble c && c.customInsn.contains .lfCust1D
  | .lvCust1 => hasVector c && c.customInsn.contains .lvCust1
  | .lvCust2 => hasVector c && c.customInsn.contains .lvCust2
  | .lvCust3 => hasVector c && c.customInsn.contains .lvCust3
  | .lvCust4 => hasVector c && c.customInsn.contains .lvCust4
  | .lfAddS .. | .lfSubS .. | .lfMulS .. | .lfDivS .. | .lfItofS .. | .lfFtoiS ..
  | .lfMaddS .. | .lfSfeqS .. | .lfSfneS .. | .lfSfgtS .. | .lfSfgeS .. | .lfSfltS ..
  | .lfSfleS .. | .lfSfueqS .. | .lfSfuneS .. | .lfSfugtS .. | .lfSfugeS .. | .lfSfultS ..
  | .lfSfuleS .. | .lfSfunS .. => c.orfpx32
  | .lfAddD .. | .lfSubD .. | .lfMulD .. | .lfDivD .. | .lfItofD .. | .lfFtoiD ..
  | .lfStodD .. | .lfDtosD .. | .lfMaddD .. | .lfSfeqD .. | .lfSfneD .. | .lfSfgtD ..
  | .lfSfgeD .. | .lfSfltD .. | .lfSfleD .. | .lfSfueqD .. | .lfSfuneD .. | .lfSfugtD ..
  | .lfSfugeD .. | .lfSfultD .. | .lfSfuleD .. | .lfSfunD .. => hasDouble c
  | .lvAddB .. | .lvAddH .. | .lvAddsB .. | .lvAddsH .. | .lvAdduB .. | .lvAdduH ..
  | .lvAddusB .. | .lvAddusH .. | .lvAllEqB .. | .lvAllEqH .. | .lvAllGeB .. | .lvAllGeH ..
  | .lvAllGtB .. | .lvAllGtH .. | .lvAllLeB .. | .lvAllLeH .. | .lvAllLtB .. | .lvAllLtH ..
  | .lvAllNeB .. | .lvAllNeH .. | .lvAnd .. | .lvAnyEqB .. | .lvAnyEqH .. | .lvAnyGeB ..
  | .lvAnyGeH .. | .lvAnyGtB .. | .lvAnyGtH .. | .lvAnyLeB .. | .lvAnyLeH .. | .lvAnyLtB ..
  | .lvAnyLtH .. | .lvAnyNeB .. | .lvAnyNeH .. | .lvAvgB .. | .lvAvgH .. | .lvCmpEqB ..
  | .lvCmpEqH .. | .lvCmpGeB .. | .lvCmpGeH .. | .lvCmpGtB .. | .lvCmpGtH .. | .lvCmpLeB ..
  | .lvCmpLeH .. | .lvCmpLtB .. | .lvCmpLtH .. | .lvCmpNeB .. | .lvCmpNeH .. | .lvMaddsH ..
  | .lvMsubsH .. | .lvMulsH .. | .lvMaxB .. | .lvMaxH .. | .lvMinB .. | .lvMinH ..
  | .lvMergeB .. | .lvMergeH .. | .lvNand .. | .lvNor .. | .lvOr .. | .lvXor ..
  | .lvPackB .. | .lvPackH .. | .lvPacksB .. | .lvPacksH .. | .lvPackusB .. | .lvPackusH ..
  | .lvPermN .. | .lvUnpackB .. | .lvUnpackH .. | .lvRlB .. | .lvRlH .. | .lvSllB ..
  | .lvSllH .. | .lvSll .. | .lvSrlB .. | .lvSrlH .. | .lvSraB .. | .lvSraH ..
  | .lvSrl .. | .lvSubB .. | .lvSubH .. | .lvSubsB .. | .lvSubsH .. | .lvSubuB ..
  | .lvSubuH .. | .lvSubusB .. | .lvSubusH .. => hasVector c
  | .lAdd .. | .lAddc .. | .lAddi .. | .lAddic .. | .lSub .. | .lAnd ..
  | .lAndi .. | .lOr .. | .lOri .. | .lXor .. | .lXori .. | .lMovhi ..
  | .lAdrp .. | .lCmov .. | .lSll .. | .lSlli .. | .lSrl .. | .lSrli ..
  | .lSra .. | .lSrai .. | .lRor .. | .lRori .. | .lMul .. | .lMuli ..
  | .lMulu .. | .lDiv .. | .lDivu .. | .lExtbs .. | .lExtbz .. | .lExths ..
  | .lExthz .. | .lExtws .. | .lExtwz .. | .lFf1 .. | .lFl1 .. | .lSfeq ..
  | .lSfne .. | .lSfgtu .. | .lSfgeu .. | .lSfltu .. | .lSfleu .. | .lSfgts ..
  | .lSfges .. | .lSflts .. | .lSfles .. | .lSfeqi .. | .lSfnei .. | .lSfgtui ..
  | .lSfgeui .. | .lSfltui .. | .lSfleui .. | .lSfgtsi .. | .lSfgesi .. | .lSfltsi ..
  | .lSflesi .. | .lLbz .. | .lLbs .. | .lLhz .. | .lLhs .. | .lLwz ..
  | .lLws .. | .lLf .. | .lSb .. | .lSh .. | .lSw .. | .lBf ..
  | .lBnf .. | .lJ .. | .lJal .. | .lJr .. | .lJalr .. | .lNop ..
  | .lSys .. | .lTrap .. | .lRfe | .lMfspr .. | .lMtspr .. | .lMsync
  | .lPsync | .lCsync => true

/-- The class II instruction an instruction is, if it is one (R3); `l.lwa` and `l.swa` go by `Config.atomics`. -/
def class2Of : Instr → Option Class2
  | .lAdrp .. => some .lAdrp
  | .lCmov .. => some .lCmov
  | .lRor .. => some .lRor
  | .lRori .. => some .lRori
  | .lMul .. => some .lMul
  | .lMuli .. => some .lMuli
  | .lMulu .. => some .lMulu
  | .lMuld .. => some .lMuld
  | .lMuldu .. => some .lMuldu
  | .lDiv .. => some .lDiv
  | .lDivu .. => some .lDivu
  | .lExtbs .. => some .lExtbs
  | .lExtbz .. => some .lExtbz
  | .lExths .. => some .lExths
  | .lExthz .. => some .lExthz
  | .lExtws .. => some .lExtws
  | .lExtwz .. => some .lExtwz
  | .lFf1 .. => some .lFf1
  | .lFl1 .. => some .lFl1
  | .lTrap .. => some .lTrap
  | .lMsync => some .lMsync
  | .lPsync => some .lPsync
  | .lCsync => some .lCsync
  | .lMac .. => some .lMac
  | .lMaci .. => some .lMaci
  | .lMacu .. => some .lMacu
  | .lMsb .. => some .lMsb
  | .lMsbu .. => some .lMsbu
  | .lMacrc .. => some .lMacrc
  | .lfDivS .. => some .lfDivS
  | .lfMaddS .. => some .lfMaddS
  | .lfSfeqS .. => some .lfSfeqS
  | .lfSfneS .. => some .lfSfneS
  | .lfSfgtS .. => some .lfSfgtS
  | .lfSfgeS .. => some .lfSfgeS
  | .lfSfueqS .. => some .lfSfueqS
  | .lfSfuneS .. => some .lfSfuneS
  | .lfSfugtS .. => some .lfSfugtS
  | .lfSfugeS .. => some .lfSfugeS
  | .lfSfultS .. => some .lfSfultS
  | .lfSfuleS .. => some .lfSfuleS
  | .lfSfunS .. => some .lfSfunS
  | .lfCust1S .. => some .lfCust1S
  | .lfMulD .. => some .lfMulD
  | .lfDivD .. => some .lfDivD
  | .lfStodD .. => some .lfStodD
  | .lfDtosD .. => some .lfDtosD
  | .lfMaddD .. => some .lfMaddD
  | .lfSfueqD .. => some .lfSfueqD
  | .lfSfuneD .. => some .lfSfuneD
  | .lfSfugtD .. => some .lfSfugtD
  | .lfSfugeD .. => some .lfSfugeD
  | .lfSfultD .. => some .lfSfultD
  | .lfSfuleD .. => some .lfSfuleD
  | .lfSfunD .. => some .lfSfunD
  | .lfCust1D .. => some .lfCust1D
  | .lvMulsH .. => some .lvMulsH
  | .lCust5 .. => some .lCust5
  | .lCust6 => some .lCust6
  | .lCust7 => some .lCust7
  | .lCust8 => some .lCust8
  | .lvCust1 => some .lvCust1
  | .lvCust2 => some .lvCust2
  | .lvCust3 => some .lvCust3
  | .lvCust4 => some .lvCust4
  | .lAdd .. | .lAddc .. | .lAddi .. | .lAddic .. | .lSub .. | .lAnd ..
  | .lAndi .. | .lOr .. | .lOri .. | .lXor .. | .lXori .. | .lMovhi ..
  | .lSll .. | .lSlli .. | .lSrl .. | .lSrli .. | .lSra .. | .lSrai ..
  | .lSfeq .. | .lSfne .. | .lSfgtu .. | .lSfgeu .. | .lSfltu .. | .lSfleu ..
  | .lSfgts .. | .lSfges .. | .lSflts .. | .lSfles .. | .lSfeqi .. | .lSfnei ..
  | .lSfgtui .. | .lSfgeui .. | .lSfltui .. | .lSfleui .. | .lSfgtsi .. | .lSfgesi ..
  | .lSfltsi .. | .lSflesi .. | .lLbz .. | .lLbs .. | .lLhz .. | .lLhs ..
  | .lLwz .. | .lLws .. | .lLd .. | .lLf .. | .lLwa .. | .lSb ..
  | .lSh .. | .lSw .. | .lSd .. | .lSwa .. | .lBf .. | .lBnf ..
  | .lJ .. | .lJal .. | .lJr .. | .lJalr .. | .lNop .. | .lSys ..
  | .lRfe | .lMfspr .. | .lMtspr .. | .lfAddS .. | .lfSubS .. | .lfMulS ..
  | .lfItofS .. | .lfFtoiS .. | .lfSfltS .. | .lfSfleS .. | .lfAddD .. | .lfSubD ..
  | .lfItofD .. | .lfFtoiD .. | .lfSfeqD .. | .lfSfneD .. | .lfSfgtD .. | .lfSfgeD ..
  | .lfSfltD .. | .lfSfleD .. | .lvAddB .. | .lvAddH .. | .lvAddsB .. | .lvAddsH ..
  | .lvAdduB .. | .lvAdduH .. | .lvAddusB .. | .lvAddusH .. | .lvAllEqB .. | .lvAllEqH ..
  | .lvAllGeB .. | .lvAllGeH .. | .lvAllGtB .. | .lvAllGtH .. | .lvAllLeB .. | .lvAllLeH ..
  | .lvAllLtB .. | .lvAllLtH .. | .lvAllNeB .. | .lvAllNeH .. | .lvAnd .. | .lvAnyEqB ..
  | .lvAnyEqH .. | .lvAnyGeB .. | .lvAnyGeH .. | .lvAnyGtB .. | .lvAnyGtH .. | .lvAnyLeB ..
  | .lvAnyLeH .. | .lvAnyLtB .. | .lvAnyLtH .. | .lvAnyNeB .. | .lvAnyNeH .. | .lvAvgB ..
  | .lvAvgH .. | .lvCmpEqB .. | .lvCmpEqH .. | .lvCmpGeB .. | .lvCmpGeH .. | .lvCmpGtB ..
  | .lvCmpGtH .. | .lvCmpLeB .. | .lvCmpLeH .. | .lvCmpLtB .. | .lvCmpLtH .. | .lvCmpNeB ..
  | .lvCmpNeH .. | .lvMaddsH .. | .lvMsubsH .. | .lvMaxB .. | .lvMaxH .. | .lvMinB ..
  | .lvMinH .. | .lvMergeB .. | .lvMergeH .. | .lvNand .. | .lvNor .. | .lvOr ..
  | .lvXor .. | .lvPackB .. | .lvPackH .. | .lvPacksB .. | .lvPacksH .. | .lvPackusB ..
  | .lvPackusH .. | .lvPermN .. | .lvUnpackB .. | .lvUnpackH .. | .lvRlB .. | .lvRlH ..
  | .lvSllB .. | .lvSllH .. | .lvSll .. | .lvSrlB .. | .lvSrlH .. | .lvSraB ..
  | .lvSraH .. | .lvSrl .. | .lvSubB .. | .lvSubH .. | .lvSubsB .. | .lvSubsH ..
  | .lvSubuB .. | .lvSubuH .. | .lvSubusB .. | .lvSubusH .. | .lCust1 | .lCust2
  | .lCust3 | .lCust4 => none

/-- The instruction is implemented (R322): its subset and unit are present and the implementation did not leave it out. -/
def implemented (c : Config) (i : Instr) : Bool :=
  subsetPresent c i &&
    match class2Of i with
    | none => true
    | some k => !c.class2Absent.contains k

/-- The second register of a pair: the first plus one or two, modulo 32 (R603, D50). -/
def pairReg (r : RegNo) (off : BitVec 1) : RegNo := r + 1 + off.setWidth 5

/-- The registers a double-precision operand names: one on XLEN = 64, a pair on XLEN = 32 (R603). -/
def doubleRegs (c : Config) (r : RegNo) (off : BitVec 1) : List RegNo :=
  match c.xlen with
  | .x32 => [r, pairReg r off]
  | .x64 => [r]

/-- The general registers an instruction names as operands (R883 (b), log 42): of the custom instructions rA and rB of
lf.cust1.s and lf.cust1.d (R635, R665). The fields of l.cust5, whose layout R580 only suggests, are the implementation's
and name none (DESIGN CHOICE, log 19). -/
def usedRegs (c : Config) : Instr → List RegNo
  | .lAdd d a b | .lAddc d a b | .lSub d a b | .lAnd d a b | .lOr d a b
  | .lXor d a b | .lCmov d a b | .lSll d a b | .lSrl d a b | .lSra d a b
  | .lRor d a b | .lMul d a b | .lMulu d a b | .lDiv d a b | .lDivu d a b
  | .lfAddS d a b | .lfSubS d a b | .lfMulS d a b | .lfDivS d a b | .lvAddB d a b
  | .lvAddH d a b | .lvAddsB d a b | .lvAddsH d a b | .lvAdduB d a b | .lvAdduH d a b
  | .lvAddusB d a b | .lvAddusH d a b | .lvAllEqB d a b | .lvAllEqH d a b | .lvAllGeB d a b
  | .lvAllGeH d a b | .lvAllGtB d a b | .lvAllGtH d a b | .lvAllLeB d a b | .lvAllLeH d a b
  | .lvAllLtB d a b | .lvAllLtH d a b | .lvAllNeB d a b | .lvAllNeH d a b | .lvAnd d a b
  | .lvAnyEqB d a b | .lvAnyEqH d a b | .lvAnyGeB d a b | .lvAnyGeH d a b | .lvAnyGtB d a b
  | .lvAnyGtH d a b | .lvAnyLeB d a b | .lvAnyLeH d a b | .lvAnyLtB d a b | .lvAnyLtH d a b
  | .lvAnyNeB d a b | .lvAnyNeH d a b | .lvAvgB d a b | .lvAvgH d a b | .lvCmpEqB d a b
  | .lvCmpEqH d a b | .lvCmpGeB d a b | .lvCmpGeH d a b | .lvCmpGtB d a b | .lvCmpGtH d a b
  | .lvCmpLeB d a b | .lvCmpLeH d a b | .lvCmpLtB d a b | .lvCmpLtH d a b | .lvCmpNeB d a b
  | .lvCmpNeH d a b | .lvMaddsH d a b | .lvMsubsH d a b | .lvMulsH d a b | .lvMaxB d a b
  | .lvMaxH d a b | .lvMinB d a b | .lvMinH d a b | .lvMergeB d a b | .lvMergeH d a b
  | .lvNand d a b | .lvNor d a b | .lvOr d a b | .lvXor d a b | .lvPackB d a b
  | .lvPackH d a b | .lvPacksB d a b | .lvPacksH d a b | .lvPackusB d a b | .lvPackusH d a b
  | .lvPermN d a b | .lvRlB d a b | .lvRlH d a b
  | .lvSllB d a b | .lvSllH d a b | .lvSll d a b | .lvSrlB d a b | .lvSrlH d a b
  | .lvSraB d a b | .lvSraH d a b | .lvSrl d a b | .lvSubB d a b | .lvSubH d a b
  | .lvSubsB d a b | .lvSubsH d a b | .lvSubuB d a b | .lvSubuH d a b | .lvSubusB d a b
  | .lvSubusH d a b => [d, a, b]
  | .lvUnpackB d a _ | .lvUnpackH d a _ => [d, a]
  | .lAddi d a _ | .lAddic d a _ | .lXori d a _ | .lMuli d a _ | .lLbz d a _
  | .lLbs d a _ | .lLhz d a _ | .lLhs d a _ | .lLwz d a _ | .lLws d a _
  | .lLd d a _ | .lLf d a _ | .lLwa d a _ => [d, a]
  | .lAndi d a _ | .lOri d a _ | .lMfspr d a _ => [d, a]
  | .lMovhi d _ => [d]
  | .lAdrp d _ => [d]
  | .lSlli d a _ | .lSrli d a _ | .lSrai d a _ | .lRori d a _ => [d, a]
  | .lMuld a b | .lMuldu a b | .lSfeq a b | .lSfne a b | .lSfgtu a b
  | .lSfgeu a b | .lSfltu a b | .lSfleu a b | .lSfgts a b | .lSfges a b
  | .lSflts a b | .lSfles a b | .lMac a b | .lMacu a b | .lMsb a b
  | .lMsbu a b | .lfMaddS a b | .lfSfeqS a b | .lfSfneS a b | .lfSfgtS a b
  | .lfSfgeS a b | .lfSfltS a b | .lfSfleS a b | .lfSfueqS a b | .lfSfuneS a b
  | .lfSfugtS a b | .lfSfugeS a b | .lfSfultS a b | .lfSfuleS a b | .lfSfunS a b => [a, b]
  | .lExtbs d a | .lExtbz d a | .lExths d a | .lExthz d a | .lExtws d a
  | .lExtwz d a | .lFf1 d a | .lFl1 d a | .lfItofS d a | .lfFtoiS d a => [d, a]
  | .lSfeqi a _ | .lSfnei a _ | .lSfgtui a _ | .lSfgeui a _ | .lSfltui a _
  | .lSfleui a _ | .lSfgtsi a _ | .lSfgesi a _ | .lSfltsi a _ | .lSflesi a _
  | .lMaci a _ => [a]
  | .lSb a b _ | .lSh a b _ | .lSw a b _ | .lSd a b _ | .lSwa a b _ => [a, b]
  | .lBf _ | .lBnf _ | .lJ _ | .lJal _ => []
  | .lJr b | .lJalr b => [b]
  | .lNop _ | .lSys _ | .lTrap _ => []
  | .lRfe | .lMsync | .lPsync | .lCsync => []
  | .lMtspr a b _ => [a, b]
  | .lMacrc d => [d]
  | .lfCust1S a b | .lfCust1D a b => [a, b]
  | .lCust1 | .lCust2 | .lCust3 | .lCust4 | .lCust5 .. | .lCust6 | .lCust7 | .lCust8 | .lvCust1 | .lvCust2
  | .lvCust3 | .lvCust4 => []
  | .lfAddD d a b d2 a2 b2 | .lfSubD d a b d2 a2 b2 | .lfMulD d a b d2 a2 b2 | .lfDivD d a b d2 a2 b2 => doubleRegs c d d2 ++ doubleRegs c a a2 ++ doubleRegs c b b2
  | .lfItofD d a d2 a2 | .lfFtoiD d a d2 a2 => doubleRegs c d d2 ++ doubleRegs c a a2
  | .lfStodD d a d2 => doubleRegs c d d2 ++ [a]
  | .lfDtosD d a a2 => [d] ++ doubleRegs c a a2
  | .lfMaddD a b a2 b2 | .lfSfeqD a b a2 b2 | .lfSfneD a b a2 b2 | .lfSfgtD a b a2 b2 | .lfSfgeD a b a2 b2
  | .lfSfltD a b a2 b2 | .lfSfleD a b a2 b2 | .lfSfueqD a b a2 b2 | .lfSfuneD a b a2 b2 | .lfSfugtD a b a2 b2
  | .lfSfugeD a b a2 b2 | .lfSfultD a b a2 b2 | .lfSfuleD a b a2 b2 | .lfSfunD a b a2 b2 => doubleRegs c a a2 ++ doubleRegs c b b2

/-- Every register the instruction names exists (R883 (b)). -/
def regsExist (c : Config) (i : Instr) : Bool := (usedRegs c i).all fun r => decide (r.toNat < c.ngpr)

/-- The configuration is one the architecture allows (R9): every parameter has a legal value and agrees with the others.
That OMPIC_BASE is a multiple of 4, which R910 does not say, and that OMPIC_IRQ is no edge-triggered input, since R913
calls the OMPIC a level-triggered source, is the model's (DESIGN CHOICE, log 17). -/
def legalConfig (c : Config) : Bool :=
  (c.ngpr == 32 || c.ngpr == 16)
    && (c.xlen == .x64 || (!c.orfpx64 && !c.orvdx64))
    && (c.xlen == .x32 || !c.orfpx64a32)
    && decide (c.dmmu.nae.toNat ≤ 4) && decide (c.immu.nae.toNat ≤ 4)
    && decide (c.dc.ncw.toNat ≤ 5) && decide (c.ic.ncw.toNat ≤ 5)
    && decide (c.dc.ncs.toNat ≤ 10) && decide (c.ic.ncs.toNat ≤ 10)
    && decide (0x10 ≤ c.vrVer.toNat) && decide (c.vrVer.toNat ≤ 0x19)
    && decide (c.vrCfg.toNat ≤ 99) && (c.hasCfgRegs == decide (c.vrCfg.toNat < 50))
    && (match c.xlen with
      | .x32 => c.paBits == 32
      | .x64 => decide (c.paBits ≤ 35) || (c.paBits == 64 && !c.hasDmmu && !c.hasImmu))
    && (match c.ompic with | none => true | some o => o.base % 4 == 0 && !c.picEdge.getLsbD o.irq.toNat)
    && (c.evbarReset &&& 0x1FFF == 0) && (c.picFixed &&& 0xFFFFFFFC == 0)
    && decide (c.coreId < c.numCores)

end Sys2Proof.Machine
end

