-- ==== Sys2Proof/Machine/Bank.lean ====
section
/-! DEFINITION. A register file: one value for every index of a bit-vector type, as plain data. -/

namespace Sys2Proof.Machine

/-- A file of `2 ^ n` registers of type `α`, register 0 first. -/
structure Bank (α : Type) (n : Nat) where
  /-- The registers in order. -/
  cells : List α
  /-- There is one for every index. -/
  size : cells.length = 2 ^ n
deriving DecidableEq, Repr

/-- Every register of the file holds `v`. -/
def Bank.replicate {α : Type} (n : Nat) (v : α) : Bank α n :=
  ⟨List.replicate (2 ^ n) v, List.length_replicate⟩

/-- The register with index `i`. -/
def Bank.get {α : Type} {n : Nat} (b : Bank α n) (i : BitVec n) : α :=
  b.cells[i.toNat]'(b.size ▸ i.isLt)

/-- The file with register `i` replaced by `v`. -/
def Bank.set {α : Type} {n : Nat} (b : Bank α n) (i : BitVec n) (v : α) : Bank α n :=
  ⟨b.cells.set i.toNat v, by rw [List.length_set]; exact b.size⟩

/-- The file with `f` applied to every register. -/
def Bank.map {α : Type} {n : Nat} (f : α → α) (b : Bank α n) : Bank α n :=
  ⟨b.cells.map f, by rw [List.length_map]; exact b.size⟩

end Sys2Proof.Machine
end

