-- ==== Sys2Proof/Machine/Platform.lean ====
section
/-! DEFINITION. The configuration the machine has at reset, D1's default, and two fuller ones that the tests use. -/

namespace Sys2Proof.Machine.Platform

/-- An absent MMU (R55). -/
def noMmu : MmuConfig :=
  { ntw := 0, nts := 0, nae := 0, cri := false, pri := false, teiri := false, htr := false }

/-- An absent cache (R52, R53). -/
def noCache : CacheConfig :=
  { ncw := 0, ncs := 0, cbs := false, cws := false, ccri := false, cbiri := false, cbpri := false, cblri := false,
    cbfri := false, cbwbri := false }

/-- A platform on which every physical address of `bits` bits answers every access (log 20). -/
def everywhere (bits : Nat) : List Region :=
  [{ base := 0, size := 2 ^ bits, fetch := true, load := true, store := true }]

/-- The default configuration of D1: XLEN = 32, 32 registers, no shadow file, a delay slot, no extension subset, PIC and
tick timer present, every other optional unit absent, every class II instruction that needs no absent unit present.
The identification constants are the model's (log 1). -/
def config : Config :=
  { xlen := .x32, ngpr := 32, nsgf := 0, nd := false, orfpx32 := false, orfpx64 := false, orfpx64a32 := false,
    orvdx64 := false, class2Absent := [], atomics := true, hasAvr := false, hasEvbar := false, hasIsr := false,
    hasAecr := false, hasVr2 := false, hasDc := false, hasIc := false, hasDmmu := false, hasImmu := false,
    hasMac := false, hasDu := false, hasPcu := false, hasPm := false, hasPic := true, hasTt := true, cup := 0,
    hasCfgRegs := false, vrVer := 0x10, vrCfg := 50, vrRev := 0, vr2Cpuid := 0, vr2Ver := 0, avrMaj := 1, avrMin := 4,
    avrRev := 0, isr := Vector.replicate (2 ^ 3) 0, dmmu := noMmu, immu := noMmu, unifiedMmu := false, dc := noCache,
    ic := noCache, unifiedCache := false, ndp := 0, wpci := false, npcCnt := 0, paBits := 32, leeImpl := false,
    unalignedOk := false, evbarReset := 0, coreId := 0, numCores := 1, strongOrder := true, validPa := everywhere 32,
    picEdge := 0, picFixed := 0, ompic := none, customInsn := [], htrWriteBack := false,
    movhiSigned := false }

/-- An MMU with every option: four ways of 128 sets, four ATB entries, software reload. -/
def fullMmu : MmuConfig :=
  { ntw := 3, nts := 7, nae := 4, cri := true, pri := true, teiri := true, htr := false }

/-- A cache with every register. -/
def fullCache : CacheConfig :=
  { ncw := 2, ncs := 6, cbs := true, cws := true, ccri := true, cbiri := true, cbpri := true, cblri := true,
    cbfri := true, cbwbri := true }

/-- A 32-bit implementation with every unit the architecture describes for it. -/
def full32 : Config :=
  { config with
    nsgf := 15, orfpx32 := true, orfpx64a32 := true, hasAvr := true, hasEvbar := true, hasIsr := true, hasAecr := true,
    hasVr2 := true, hasDc := true, hasIc := true, hasDmmu := true, hasImmu := true, hasMac := true, hasDu := true,
    hasPcu := true, hasPm := true, hasCfgRegs := true, vrCfg := 1, dmmu := fullMmu, immu := fullMmu, dc := fullCache,
    ic := fullCache, ndp := 7, wpci := true, npcCnt := 7, leeImpl := true }

/-- A 64-bit implementation with every unit the architecture describes for it. -/
def full64 : Config :=
  { full32 with
    xlen := .x64, orfpx64 := true, orfpx64a32 := false, orvdx64 := true, paBits := 35, validPa := everywhere 35 }

end Sys2Proof.Machine.Platform
end

