-- ==== Sys2Proof/Machine/Sparse.lean ====
section
/-! DEFINITION. Data by natural-number key in one canonical form: keys strictly rising, no entry equal to what an unlisted
key reads as. Physical memory and the OMPIC's message slots are held so. -/

namespace Sys2Proof.Machine

/-- The value at key `k`; `dflt` where the list has none. The search stops at the first larger key. -/
def sparseGet {α : Type} (dflt : α) : List (Nat × α) → Nat → α
  | [], _ => dflt
  | (j, v) :: rest, k => if j = k then v else if k < j then dflt else sparseGet dflt rest k

/-- Put `v` at key `k`, keeping the canonical form: an entry equal to `dflt` is removed. -/
def sparseSet {α : Type} [DecidableEq α] (dflt : α) : List (Nat × α) → Nat → α → List (Nat × α)
  | [], k, v => if v = dflt then [] else [(k, v)]
  | (j, w) :: rest, k, v =>
    if j = k then (if v = dflt then rest else (k, v) :: rest)
    else if k < j then (if v = dflt then (j, w) :: rest else (k, v) :: (j, w) :: rest)
    else (j, w) :: sparseSet dflt rest k v

/-- Every key of the list is above `lo`, the keys rise strictly, and no entry equals `dflt`. -/
def sparseAbove {α : Type} [DecidableEq α] (dflt : α) : Option Nat → List (Nat × α) → Bool
  | _, [] => true
  | lo, (j, v) :: rest =>
    (match lo with | none => true | some l => decide (l < j)) && decide (v ≠ dflt) && sparseAbove dflt (some j) rest

/-- The canonical form. -/
def sparseWf {α : Type} [DecidableEq α] (dflt : α) (m : List (Nat × α)) : Bool := sparseAbove dflt none m

/-- What a byte of memory that nothing has written reads as: 0 (log 6, DESIGN CHOICE). R68 gives memory no contents at
power-up. -/
def unwrittenByte : Byte := 0

/-- Memory holds its canonical form. -/
def Memory.wf (m : List Host.Cell) : Bool := sparseWf unwrittenByte m

/-- The byte of memory at physical address `a`. -/
def readByte (m : List Host.Cell) (a : Nat) : Byte := sparseGet unwrittenByte m a

/-- Memory with the byte at physical address `a` replaced. -/
def writeByte (m : List Host.Cell) (a : Nat) (v : Byte) : List Host.Cell := sparseSet unwrittenByte m a v

end Sys2Proof.Machine
end

