-- ==== Sys2Proof/Machine/State.lean ====
section
/-! DEFINITION. The machine's state: everything the spec gives the machine, as plain data, and its value after reset. -/

namespace Sys2Proof.Machine

/-- Why the machine stops with a fault: for no reason at all. What the spec calls a fault is an exception, which is a next
state (R850), so this type has no constructor; nothing raises one, which is safe. -/
inductive Fault where
deriving DecidableEq, Repr

/-- Why an instruction has no meaning here. -/
inductive Refusal where
  /-- An instruction the model has not reached: raised by the dispatch alone. Safe: the model stops where the hardware
  goes on. -/
  | notModelled (mnemonic : String)
  /-- `l.j`, `l.jal`, `l.jr`, `l.jalr`, `l.bf`, `l.bnf` in a delay slot: raised by those six. R532 defines no next state
  (D47). Safe. -/
  | jumpInDelaySlot
  /-- An access to the OMPIC that is not an aligned word: raised by loads, stores and the fetch. R910 states no effect
  and D56 allows word accesses only. Safe. -/
  | ompicAccess
deriving DecidableEq, Repr

/-- What one step or one meaning answers. -/
abbrev Out (σ : Type) := Host.Outcome σ Fault Refusal

/-- Whether the core executes instructions (R67). -/
inductive Status where
  /-- Executing. -/
  | running
  /-- Doze mode: only the timer and the interrupt controller work. -/
  | doze
  /-- Sleep mode: only an interrupt wakes it. -/
  | sleep
  /-- Suspend mode: only a reset ends it. -/
  | suspend
  /-- Stopped by the debug unit: only a reset ends it (D23). -/
  | stopped
deriving DecidableEq, Repr

/-- The exceptions of Table 6-2, by vector number 1 to 14 (R851). -/
inductive Exc where
  | reset
  | busError
  | dataPageFault
  | insnPageFault
  | tickTimer
  | alignment
  | illegal
  | external
  | dtlbMiss
  | itlbMiss
  | range
  | systemCall
  | floatingPoint
  | trap
deriving DecidableEq, Repr

/-- The kinds of access (R215, R216). -/
inductive AccKind where
  | fetch
  | load
  | store
deriving DecidableEq, Repr

/-- A data access that was performed, for the debug unit and the performance counters (R147, R161). -/
structure Access where
  /-- Load or store, never a fetch. -/
  kind : AccKind
  /-- The effective address. -/
  ea : Word
  /-- The value moved, zero-extended from the access width. -/
  data : Word
deriving DecidableEq, Repr

/-- The registers of one MMU (R100-R110). A TLB index is the way in two bits followed by the set in seven. -/
structure MmuRegs where
  /-- xMMUCR. -/
  cr : Word32
  /-- xMMUPR. -/
  pr : Word32
  /-- xATBMR0-3. -/
  atbm : Bank Word32 2
  /-- xATBTR0-3. -/
  atbt : Bank Word32 2
  /-- xTLBWyMR0-127. -/
  tlbm : Bank Word32 9
  /-- xTLBWyTR0-127. -/
  tlbt : Bank Word32 9
  /-- The model's: EA[45:32] of the page that a hardware walk put into an ATB entry (R272, log 47). -/
  atbVpn : Bank (Option (BitVec 14)) 2
  /-- The model's: EA[45:32] of the page that a hardware walk put into a TLB entry (R272, log 47). -/
  tlbVpn : Bank (Option (BitVec 14)) 9
  /-- The model's: the 22-bit page number of the PTE that a hardware walk put into a TLB entry (R266, log 47). -/
  tlbPpn : Bank (Option (BitVec 22)) 9
deriving DecidableEq, Repr

/-- The debug unit's registers (R140-R146). -/
structure DebugRegs where
  /-- DVR0-7. -/
  dvr : Bank Word32 3
  /-- DCR0-7. -/
  dcr : Bank Word32 3
  /-- DMR1. -/
  dmr1 : Word32
  /-- DMR2. -/
  dmr2 : Word32
  /-- DWCR0. -/
  dwcr0 : Word32
  /-- DWCR1. -/
  dwcr1 : Word32
  /-- DSR. -/
  dsr : Word32
  /-- DRR. -/
  drr : Word32
deriving DecidableEq, Repr

/-- The OMPIC's message slot of one core (R913). -/
structure OmpicSlot where
  /-- IRQ_PEND. -/
  pend : Bool
  /-- SRC_CORE. -/
  src : BitVec 14
  /-- DATA. -/
  data : BitVec 16
deriving DecidableEq, Repr

/-- How often each microarchitectural event happened since the last step (R161): the environment says it. -/
structure UarchEvents where
  /-- Data dependency stalls. -/
  dds : Nat
  /-- Branch stalls. -/
  bs : Nat
  /-- Load/store unit stalls. -/
  lsus : Nat
  /-- Instruction fetch stalls. -/
  ifs : Nat
  /-- Instruction cache misses. -/
  icm : Nat
  /-- Data cache misses. -/
  dcm : Nat
deriving DecidableEq, Repr

/-- What the environment does before one step: step 1 of R901, and R905, R906 (log 9). -/
structure EnvInput where
  /-- Timer steps beyond the one that an executed instruction needs at least (R905). -/
  ticks : Nat
  /-- The interrupt input lines. -/
  irq : Word32
  /-- The External Watchpoint input (R142). -/
  extWp : Bool
  /-- The reset line is asserted. -/
  reset : Bool
  /-- Bytes that other masters write, in order. -/
  writes : List Host.Cell
  /-- Words that other cores write to their OMPIC control registers, each with its core number. -/
  ompicWrites : List (Nat × Word32)
  /-- Microarchitectural events for the performance counters. -/
  events : UarchEvents
deriving DecidableEq, Repr

/-- The state of the machine: one core, its units, the memory and the platform device it shares, and what the
environment will do. -/
structure State where
  /-- The implementation parameters (R9); no step changes them. -/
  cfg : Config
  /-- The general registers of all contexts: register `i` of context `c` at index `c` followed by `i` (R20, R21, R25). -/
  gpr : Bank Word 9
  /-- The program counter (R27). -/
  pc : Word
  /-- The address of the instruction executed before, SPR PPC (R28). -/
  ppc : Word
  /-- The pending delay-slot target (R29). -/
  ds : Option Word
  /-- The supervision register (R35). -/
  sr : Word32
  /-- EPCR0-15 (R40). -/
  epcr : Bank Word 4
  /-- EEAR0-15 (R41). -/
  eear : Bank Word 4
  /-- ESR0-15 (R42). -/
  esr : Bank Word 4
  /-- EVBAR (R59). -/
  evbar : Word32
  /-- AECR (R60). -/
  aecr : Word32
  /-- AESR (R61). -/
  aesr : Word32
  /-- FPCSR (R45). -/
  fpcsr : Word32
  /-- MACLO (R47). -/
  maclo : Word32
  /-- MACHI (R47). -/
  machi : Word32
  /-- FPMADDLO (R48). -/
  fpmaddlo : Word32
  /-- FPMADDHI (R48). -/
  fpmaddhi : Word32
  /-- VMACLO (R49). -/
  vmaclo : BitVec 64
  /-- VMACHI (R49). -/
  vmachi : BitVec 64
  /-- The reservation of `l.lwa`: the physical address of the reserved word (R230). -/
  resv : Option Nat
  /-- The data MMU's registers. -/
  dmmu : MmuRegs
  /-- The instruction MMU's registers. -/
  immu : MmuRegs
  /-- DCCR (R120). -/
  dccr : Word32
  /-- ICCR (R121). -/
  iccr : Word32
  /-- The debug unit's registers. -/
  dbg : DebugRegs
  /-- PCCR0-7 (R160). -/
  pccr : Bank Word32 3
  /-- PCMR0-7 (R161). -/
  pcmr : Bank Word32 3
  /-- PMR (R170). -/
  pmr : Word32
  /-- The core status (R67). -/
  status : Status
  /-- PICMR (R180). -/
  picmr : Word32
  /-- The latches of the edge-triggered inputs (R182). -/
  picLatch : Word32
  /-- The interrupt input lines (R182, R906). -/
  irqIn : Word32
  /-- The model's own: the level every line had when the edges were last looked for (log 26). -/
  irqSeen : Word32
  /-- TTMR (R184). -/
  ttmr : Word32
  /-- TTCR (R185). -/
  ttcr : Word32
  /-- The OMPIC's message slots, by core number (R913). -/
  ompic : List (Nat × OmpicSlot)
  /-- Physical memory (R200). -/
  mem : List Host.Cell
  /-- The model's own: what the environment does before the coming steps (log 9). -/
  env : List EnvInput
  /-- The model's own: the External Watchpoint input (log 22). -/
  extWp : Bool
  /-- The model's own: how many free values have been drawn (log 8). -/
  free : Nat
  /-- The model's own: a debug trap is pending from the last instruction (R901 step 6). -/
  dbgPending : Bool
  /-- The model's own: the data access the current instruction has made (log 27). -/
  acc : Option Access
  /-- The model's own: the exception taken in the current step (log 27). -/
  exc : Option Exc
deriving DecidableEq, Repr

/-- Which entry of an MMU translated an access (R264). -/
inductive XlatSlot where
  /-- A TLB entry, by its index. -/
  | tlb (i : BitVec 9)
  /-- An ATB entry. -/
  | atb (k : BitVec 2)
deriving DecidableEq, Repr

/-- What a memory access answers: a value and the state after it, an exception with the state it is taken in, or a
refusal. -/
inductive AccRes (α : Type) where
  /-- The access was made. -/
  | ok (v : α) (s : State)
  /-- The access raises an exception (R215, R216). -/
  | exc (e : Exc) (s : State)
  /-- The spec gives the access no effect (R910). -/
  | refuse (r : Refusal)
deriving DecidableEq, Repr

/-- An OMPIC slot that holds no message (R912). -/
def emptySlot : OmpicSlot := { pend := false, src := 0, data := 0 }

/-- The registers of an MMU after reset (R68; the fields without a reset value are 0, log 5). -/
def MmuRegs.reset : MmuRegs :=
  { cr := 0, pr := 0, atbm := Bank.replicate 2 0, atbt := Bank.replicate 2 0, tlbm := Bank.replicate 9 0,
    tlbt := Bank.replicate 9 0, atbVpn := Bank.replicate 2 none, tlbVpn := Bank.replicate 9 none,
    tlbPpn := Bank.replicate 9 none }

/-- The debug unit's registers after reset (R68). -/
def DebugRegs.reset : DebugRegs :=
  { dvr := Bank.replicate 3 0, dcr := Bank.replicate 3 0, dmr1 := 0, dmr2 := 0, dwcr0 := 0, dwcr1 := 0, dsr := 0,
    drr := 0 }

/-- The machine right after reset, for a configuration (R68, R930): what the spec gives no reset value for is 0
(log 3, 4, 5, 6, 7). -/
def State.resetOf (c : Config) : State :=
  { cfg := c
    gpr := Bank.replicate 9 0
    pc := 0x100 ||| (if c.hasEvbar then (c.evbarReset &&& 0xFFFFE000).setWidth 64 else 0)
    ppc := 0
    ds := none
    sr := 0x00008001
    epcr := Bank.replicate 4 0
    eear := Bank.replicate 4 0
    esr := Bank.replicate 4 0
    evbar := c.evbarReset &&& 0xFFFFE000
    aecr := 0
    aesr := 0
    fpcsr := 0
    maclo := 0
    machi := 0
    fpmaddlo := 0
    fpmaddhi := 0
    vmaclo := 0
    vmachi := 0
    resv := none
    dmmu := MmuRegs.reset
    immu := MmuRegs.reset
    dccr := 0
    iccr := 0
    dbg := DebugRegs.reset
    pccr := Bank.replicate 3 0
    pcmr := Bank.replicate 3 0
    pmr := 0
    status := .running
    picmr := c.picFixed &&& 3
    picLatch := 0
    irqIn := 0
    irqSeen := 0
    ttmr := 0
    ttcr := 0
    ompic := []
    mem := []
    env := []
    extWp := false
    free := 0
    dbgPending := false
    acc := none
    exc := none }

/-- The machine right after reset, on the default configuration of D1. -/
def State.reset : State := State.resetOf Platform.config

end Sys2Proof.Machine
end

