-- ==== Sys2Proof/Machine/Width.lean ====
section
/-! DEFINITION. XLEN-wide values: a `Word` holds 64 bits, and on XLEN = 32 only its lower half counts (log 2). Arithmetic
is done on integers and narrowed once. -/

namespace Sys2Proof.Machine

/-- `XLEN` as a number (R9). -/
def xlenBits (c : Config) : Nat :=
  match c.xlen with
  | .x32 => 32
  | .x64 => 64

/-- A value modulo 2^XLEN (R13, R200). -/
def trunc (c : Config) (w : Word) : Word :=
  match c.xlen with
  | .x32 => (w.setWidth 32).setWidth 64
  | .x64 => w

/-- The value read as a signed XLEN-bit integer. -/
def toS (c : Config) (w : Word) : Int :=
  match c.xlen with
  | .x32 => (w.setWidth 32).toInt
  | .x64 => w.toInt

/-- The value read as an unsigned XLEN-bit integer. -/
def toU (c : Config) (w : Word) : Nat :=
  match c.xlen with
  | .x32 => (w.setWidth 32).toNat
  | .x64 => w.toNat

/-- An integer modulo 2^XLEN. -/
def ofI (c : Config) (z : Int) : Word := trunc c (BitVec.ofInt 64 z)

/-- A natural number modulo 2^XLEN. -/
def ofN (c : Config) (n : Nat) : Word := trunc c (BitVec.ofNat 64 n)

/-- Sign extension to XLEN bits (R13 `sext_N`). -/
def sext (c : Config) {n : Nat} (v : BitVec n) : Word := trunc c (v.signExtend 64)

/-- Zero extension (R13 `zext_N`). -/
def zext {n : Nat} (v : BitVec n) : Word := v.setWidth 64

/-- An exact integer lies outside the signed XLEN-bit range. -/
def outOfRange (c : Config) (z : Int) : Bool :=
  decide (z < -(2 : Int) ^ (xlenBits c - 1)) || decide ((2 : Int) ^ (xlenBits c - 1) ≤ z)

/-- A 32-bit register with bit `k` replaced. -/
def putBit (w : Word32) (k : Nat) (b : Bool) : Word32 :=
  if b then w ||| (1#32 <<< k) else w &&& ~~~(1#32 <<< k)

/-- One bit as a value of width `n`. -/
def boolBit (n : Nat) (b : Bool) : BitVec n := if b then 1 else 0

end Sys2Proof.Machine
end

