-- ==== Sys2Proof/Machine/Operands.lean ====
section
/-! DEFINITION. Reading and writing operands: general registers through the current context, register pairs, single- and
double-precision operands, effective addresses, and the fields of SR that choose among them. -/

namespace Sys2Proof.Machine

/-- SR[SM]: supervisor mode (R35, R37). -/
def State.sm (s : State) : Bool := s.sr.getLsbD 0
/-- SR[TEE] (R35). -/
def State.tee (s : State) : Bool := s.sr.getLsbD 1
/-- SR[IEE] (R35). -/
def State.iee (s : State) : Bool := s.sr.getLsbD 2
/-- SR[DME] (R35). -/
def State.dme (s : State) : Bool := s.sr.getLsbD 5
/-- SR[IME] (R35). -/
def State.ime (s : State) : Bool := s.sr.getLsbD 6
/-- SR[LEE] (R35). -/
def State.lee (s : State) : Bool := s.sr.getLsbD 7
/-- SR[CE] (R35). -/
def State.ce (s : State) : Bool := s.sr.getLsbD 8
/-- SR[F] (R35). -/
def State.flag (s : State) : Bool := s.sr.getLsbD 9
/-- SR[CY] (R35). -/
def State.cy (s : State) : Bool := s.sr.getLsbD 10
/-- SR[OV] (R35). -/
def State.ov (s : State) : Bool := s.sr.getLsbD 11
/-- SR[OVE] (R35). -/
def State.ove (s : State) : Bool := s.sr.getLsbD 12
/-- SR[EPH] (R35). -/
def State.eph (s : State) : Bool := s.sr.getLsbD 14
/-- SR[SUMRA] (R35). -/
def State.sumra (s : State) : Bool := s.sr.getLsbD 16
/-- SR[CID] (R35). -/
def State.cid (s : State) : BitVec 4 := s.sr.extractLsb' 28 4

/-- Fast context switching is active: shadow files exist and SR[CE] = 1 (R870). -/
def State.fastCtx (s : State) : Bool := decide (s.cfg.nsgf ≠ 0) && s.ce

/-- The current context: SR[CID] when fast context switching is active, else 0 (R21, R43, D11). A number above NSGF that
software wrote names the set of that very number (DESIGN CHOICE, log 46). -/
def State.ctx (s : State) : BitVec 4 := if s.fastCtx then s.cid else 0

/-- The place of a register of a context in the file: context, then number (R25). -/
def gprIndex (c : BitVec 4) (r : RegNo) : BitVec 9 := c ++ r

/-- `r[i]`: a general register of the current context (R20, R21). Register 0 is an ordinary one (R22). -/
def State.reg (s : State) (r : RegNo) : Word := trunc s.cfg (s.gpr.get (gprIndex s.ctx r))

/-- `r[i] <- v` (R20, R21, R22). -/
def State.setReg (s : State) (r : RegNo) (v : Word) : State :=
  { s with gpr := s.gpr.set (gprIndex s.ctx r) (trunc s.cfg v) }

/-- The address `rA + sext_16(I)` of a load or store, modulo 2^XLEN (R500). -/
def State.addr (s : State) (a : RegNo) (i : BitVec 16) : Word := trunc s.cfg (s.reg a + sext s.cfg i)

/-- A single-precision operand: bits 31-0 of the register (R604). -/
def State.single (s : State) (r : RegNo) : Word32 := (s.reg r).setWidth 32

/-- A double-precision operand: the register on XLEN = 64, the pair with the first register above on XLEN = 32 (R603). -/
def State.double (s : State) (r : RegNo) (off : BitVec 1) : BitVec 64 :=
  match s.cfg.xlen with
  | .x32 => (s.reg r).setWidth 32 ++ (s.reg (pairReg r off)).setWidth 32
  | .x64 => s.reg r

/-- Write a single-precision result: on XLEN = 64 the upper half becomes ones, NaN boxing (R604). -/
def State.setSingle (s : State) (r : RegNo) (v : Word32) : State :=
  match s.cfg.xlen with
  | .x32 => s.setReg r (v.setWidth 64)
  | .x64 => s.setReg r (0xFFFFFFFF#32 ++ v)

/-- Write a double-precision result to a register or to a pair (R603). -/
def State.setDouble (s : State) (r : RegNo) (off : BitVec 1) (v : BitVec 64) : State :=
  match s.cfg.xlen with
  | .x32 => (s.setReg r (zext (v.extractLsb' 32 32))).setReg (pairReg r off) (zext (v.extractLsb' 0 32))
  | .x64 => s.setReg r v

/-- The accumulator `{MACHI, MACLO}` (R47). -/
def State.mac (s : State) : BitVec 64 := s.machi ++ s.maclo

/-- Write the accumulator `{MACHI, MACLO}` (R47). -/
def State.setMac (s : State) (v : BitVec 64) : State :=
  { s with machi := v.extractLsb' 32 32, maclo := v.extractLsb' 0 32 }

/-- Draw a value the spec leaves open: the constant at the current count (log 8). -/
def State.freeWord (s : State) : BitVec 64 := Config.freeValue s.free

/-- Count one draw. -/
def State.drawn (s : State) : State := { s with free := s.free + 1 }

end Sys2Proof.Machine
end

