-- ==== Sys2Proof/Machine/Mmu.lean ====
section
/-! DEFINITION. Address translation: TLB and ATB lookup, protection, accessed and dirty bits, the hardware page-table walk
(R260-R276), and the operations the MMU registers trigger (R100-R104). -/

namespace Sys2Proof.Machine

/-- The geometry of the MMU that serves a kind of access; with a unified MMU both are the data side's (R111). -/
def mmuConfig (c : Config) : AccKind → MmuConfig
  | .fetch => if c.unifiedMmu then c.dmmu else c.immu
  | .load | .store => c.dmmu

/-- The MMU registers that serve a kind of access (R111). -/
def State.mmu (s : State) : AccKind → MmuRegs
  | .fetch => if s.cfg.unifiedMmu then s.dmmu else s.immu
  | .load | .store => s.dmmu

/-- Replace the MMU registers that serve a kind of access. -/
def State.setMmu (s : State) (k : AccKind) (m : MmuRegs) : State :=
  match k with
  | .fetch => if s.cfg.unifiedMmu then { s with dmmu := m } else { s with immu := m }
  | .load | .store => { s with dmmu := m }

/-- The set an address selects: the low NTS bits of its page number (R262, D19). -/
def tlbSet (m : MmuConfig) (ea : Word) : BitVec 7 := (ea >>> 13).setWidth 7 &&& (1#7 <<< m.nts.toNat - 1)

/-- The place of a TLB entry: way, then set (R262). -/
def tlbIndex (way : BitVec 2) (set : BitVec 7) : BitVec 9 := way ++ set

/-- On XLEN = 64 the page number goes on above bit 31, up to bit 45: `high` is the entry's part, of which `drop` low bits
take no part (R272). -/
def highPageMatches (c : Config) (high : BitVec 14) (ea : Word) (drop : Nat) : Bool :=
  match c.xlen with
  | .x32 => true
  | .x64 => decide (high >>> drop = ea.extractLsb' 32 14 >>> drop)

/-- A TLB match register, with the high part of its page number, covers an address of the given context (R263). -/
def tlbMatches (c : Config) (cid : BitVec 4) (mr : Word32) (high : BitVec 14) (ea : Word) : Bool :=
  mr.getLsbD 0 && decide (mr.extractLsb' 2 4 = cid)
    && (if mr.getLsbD 1 then decide (mr.extractLsb' 24 8 = ea.extractLsb' 24 8)
        else decide (mr.extractLsb' 13 19 = ea.extractLsb' 13 19))
    && highPageMatches c high ea 0

/-- An ATB match register, with the high part of its page number, covers an address of the given context; a 32 GByte entry
only on XLEN = 64 (R267, R272). -/
def atbMatches (c : Config) (cid : BitVec 4) (mr : Word32) (high : BitVec 14) (ea : Word) : Bool :=
  mr.getLsbD 0 && decide (mr.extractLsb' 1 4 = cid)
    && (if mr.getLsbD 5 then decide (c.xlen = .x64) && highPageMatches c high ea 3
        else decide (mr.extractLsb' 24 8 = ea.extractLsb' 24 8) && highPageMatches c high ea 0)

/-- The match register of an entry. -/
def MmuRegs.matchOf (m : MmuRegs) : XlatSlot → Word32
  | .tlb i => m.tlbm.get i
  | .atb e => m.atbm.get e

/-- Bits 45 to 32 of an entry's page number: those of the page that a hardware walk put there (R272, log 47), or where
software wrote the match register a free function of it (log 15). -/
def MmuRegs.highVpn (m : MmuRegs) (e : XlatSlot) : BitVec 14 :=
  let held :=
    match e with
    | .tlb i => m.tlbVpn.get i
    | .atb a => m.atbVpn.get a
  held.getD (Config.vpnHigh (m.matchOf e))

/-- The TLB entry that translates an address: the lowest-numbered hitting way (R263, D37). -/
def findTlb (s : State) (k : AccKind) (ea : Word) : Option (BitVec 9) :=
  let m := mmuConfig s.cfg k
  let set := tlbSet m ea
  (([0, 1, 2, 3] : List (BitVec 2)).find? fun w =>
      decide (w.toNat ≤ m.ntw.toNat) && tlbMatches s.cfg s.cid ((s.mmu k).matchOf (.tlb (tlbIndex w set)))
        ((s.mmu k).highVpn (.tlb (tlbIndex w set))) ea).map
    fun w => tlbIndex w set

/-- The ATB entry that translates an address: the lowest-numbered hitting one (R267, D37). -/
def findAtb (s : State) (k : AccKind) (ea : Word) : Option (BitVec 2) :=
  ([0, 1, 2, 3] : List (BitVec 2)).find? fun e =>
    decide (e.toNat < (mmuConfig s.cfg k).nae.toNat) && atbMatches s.cfg s.cid ((s.mmu k).matchOf (.atb e)) ((s.mmu k).highVpn (.atb e)) ea

/-- The entry that translates an address: the TLB before the ATB (R264 step 1). -/
def findEntry (s : State) (k : AccKind) (ea : Word) : Option XlatSlot :=
  match findTlb s k ea with
  | some i => some (.tlb i)
  | none => (findAtb s k ea).map .atb

/-- The translate register of an entry. -/
def MmuRegs.translateOf (m : MmuRegs) : XlatSlot → Word32
  | .tlb i => m.tlbt.get i
  | .atb e => m.atbt.get e

/-- Replace the translate register of an entry. -/
def MmuRegs.setTranslate (m : MmuRegs) (e : XlatSlot) (v : Word32) : MmuRegs :=
  match e with
  | .tlb i => { m with tlbt := m.tlbt.set i v }
  | .atb k => { m with atbt := m.atbt.set k v }

/-- The bit of a translate register that permits an access; the data ATB orders the four differently from the data TLB
(R106, R107, R109, R110). -/
def permitBit (slot : XlatSlot) (k : AccKind) (sm : Bool) : Nat :=
  match k, slot with
  | .fetch, _ => if sm then 6 else 7
  | .load, .tlb _ => if sm then 8 else 6
  | .store, .tlb _ => if sm then 9 else 7
  | .load, .atb _ => if sm then 6 else 8
  | .store, .atb _ => if sm then 7 else 9

/-- The translate register after a permitted access: A set, D set by a store (R269). -/
def markAccessed (k : AccKind) (tr : Word32) : Word32 :=
  match k with
  | .fetch | .load => tr ||| 0x10
  | .store => tr ||| 0x30

/-- The physical address an entry and an effective address form (R266, R272), within PA_BITS. -/
def formPa (c : Config) (slot : XlatSlot) (mr tr : Word32) (ea : Word) : Nat :=
  let high : BitVec 3 := match c.xlen with | .x32 => 0 | .x64 => Config.ppnHigh tr
  let pa : BitVec 35 :=
    match slot with
    | .tlb _ =>
      if mr.getLsbD 1 then high ++ tr.extractLsb' 24 8 ++ ea.extractLsb' 0 24
      else high ++ tr.extractLsb' 13 19 ++ ea.extractLsb' 0 13
    | .atb _ =>
      if mr.getLsbD 5 then ea.extractLsb' 0 35 else tr.extractLsb' 21 11 ++ ea.extractLsb' 0 24
  pa.toNat % 2 ^ c.paBits

/-- The PTE's page number that a hardware walk on XLEN = 64 put into an entry, beyond the 19 bits of its translate register
(R266, log 47). -/
def heldPpn (s : State) (k : AccKind) : XlatSlot → Option (BitVec 22)
  | .tlb i => if (mmuConfig s.cfg k).htr && decide (s.cfg.xlen = .x64) then (s.mmu k).tlbPpn.get i else none
  | .atb _ => none

/-- The physical address of an address that an entry translates: from the PTE's page number where a walk put it there, else
from the translate register (R266). -/
def entryPa (s : State) (k : AccKind) (ea : Word) (slot : XlatSlot) : Nat :=
  let mr := (s.mmu k).matchOf slot
  match heldPpn s k slot with
  | some ppn =>
    let pa : BitVec 35 :=
      if mr.getLsbD 1 then ppn.extractLsb' 11 11 ++ ea.extractLsb' 0 24 else ppn ++ ea.extractLsb' 0 13
    pa.toNat % 2 ^ s.cfg.paBits
  | none => formPa s.cfg slot mr ((s.mmu k).translateOf slot) ea

/-- A write at physical address `pa` overlaps the reserved word, the aligned one at the reserved address (R230, R231). -/
def overlaps (resv : Option Nat) (pa : Nat) : Bool :=
  match resv with
  | some r => decide (pa / 4 = r / 4)
  | none => false

/-- The reservation after a write to these physical addresses, whoever makes it (R231 (a), (b), R233). -/
def keepResv (resv : Option Nat) (pas : List Nat) : Option Nat :=
  if pas.any (overlaps resv) then none else resv

/-- A big-endian word of physical memory, also where the OMPIC stands above it (R275, D3, log 16). -/
def readPte (m : List Host.Cell) (a : Nat) : Word32 :=
  readByte m a ++ readByte m (a + 1) ++ readByte m (a + 2) ++ readByte m (a + 3)

/-- Write a big-endian word of physical memory. -/
def writePte (m : List Host.Cell) (a : Nat) (v : Word32) : List Host.Cell :=
  writeByte (writeByte (writeByte (writeByte m a (v.extractLsb' 24 8)) (a + 1) (v.extractLsb' 16 8)) (a + 2)
    (v.extractLsb' 8 8)) (a + 3) (v.extractLsb' 0 8)

/-- PTE[PPI] (R273). -/
def pteIndex (p : Word32) : BitVec 3 := p.extractLsb' 6 3
/-- PTE[L] (R273). -/
def pteLast (p : Word32) : Bool := p.getLsbD 9
/-- The address of the table a directory entry points to: its PPN numbers 8 KB frames (R275). -/
def pteTable (p : Word32) : Nat := (p.extractLsb' 10 22).toNat * 0x2000

/-- Search the page tables from a table at `base` down the given indexes, each with the level of the page an entry there
describes: the address of the last PTE, the PTE and its level (R274, R275). An invalid entry, or a last table whose entry
is not last, finds nothing. Addresses are taken modulo 2^PA_BITS (R200, log 16). -/
def walkTables (bits : Nat) (m : List Host.Cell) : Nat → List (Nat × Nat) → Option (Nat × Word32 × Nat)
  | _, [] => none
  | base, (level, index) :: rest =>
    let a := (base + 4 * index) % 2 ^ bits
    let p := readPte m a
    if pteIndex p = 0 then none
    else if pteLast p then some (a, p, level)
    else walkTables bits m (pteTable p) rest

/-- The page-table indexes of an address: two levels on XLEN = 32, three on XLEN = 64 (R274, log 16). -/
def walkIndexes (c : Config) (ea : Word) : List (Nat × Nat) :=
  match c.xlen with
  | .x32 => [(1, (ea.extractLsb' 24 8).toNat), (2, (ea.extractLsb' 13 11).toNat)]
  | .x64 => [(0, (ea.extractLsb' 35 11).toNat), (1, (ea.extractLsb' 24 11).toNat), (2, (ea.extractLsb' 13 11).toNat)]

/-- The base of the current context's page tables: xMMUCR[PTBP] for context 0; where the tables of another context stand is
a free function, for R274 does not say it (R275, log 16). -/
def walkBase (s : State) (k : AccKind) : Nat :=
  if s.cid = 0 then ((s.mmu k).cr &&& 0xFFFFFC00).toNat else Config.contextTables (s.mmu k).cr s.cid

/-- The PTE of an address, from the page tables of the current context (R275). -/
def findPte (s : State) (k : AccKind) (ea : Word) : Option (Nat × Word32 × Nat) :=
  walkTables s.cfg.paBits s.mem (walkBase s k) (walkIndexes s.cfg ea)

/-- The page number a TLB translate register holds for a PTE: the PTE's, or a free function of it where it needs more than
19 bits (R275, log 16). -/
def tlbFrame (p : Word32) : BitVec 19 :=
  if p.extractLsb' 29 3 = 0 then p.extractLsb' 10 19 else Config.narrowFrame (p.extractLsb' 10 22)

/-- The protection bits, as bits 9-6 of a translate register, that PTE[PPI] selects from xMMUPR (R276). With a unified MMU a
walk for a fetch does so too, by the instruction side's layout (DESIGN CHOICE, log 39). -/
def walkProt (k : AccKind) (slot : XlatSlot) (pr : Word32) (ppi : BitVec 3) : Word32 :=
  let x := ppi.toNat - 1
  let bit (n at_ : Nat) : Word32 := if pr.getLsbD n then 1#32 <<< at_ else 0
  match k, slot with
  | .fetch, _ => bit (2 * x) 6 ||| bit (2 * x + 1) 7
  | _, .tlb _ => bit (4 * x) 8 ||| bit (4 * x + 1) 9 ||| bit (4 * x + 2) 6 ||| bit (4 * x + 3) 7
  | _, .atb _ => bit (4 * x) 6 ||| bit (4 * x + 1) 7 ||| bit (4 * x + 2) 8 ||| bit (4 * x + 3) 9

/-- The entry a walk replaces (R275): a free way of the selected set, or for a 32 GByte page a free ATB entry; without ATB
entries it is one that no lookup sees. A 16 MByte page, for which R275 allows a TLB or an ATB entry, always goes to the
TLB (DESIGN CHOICE, log 16). -/
def victim (s : State) (k : AccKind) (ea : Word) (level : Nat) : XlatSlot :=
  let m := mmuConfig s.cfg k
  if level = 0 then .atb (BitVec.ofNat 2 (s.freeWord.toNat % max 1 m.nae.toNat))
  else .tlb (tlbIndex (BitVec.ofNat 2 (s.freeWord.toNat % (m.ntw.toNat + 1))) (tlbSet m ea))

/-- Install the entry a walk found (R275), the page numbers whole (R272, log 47); the LRU field of the replaced match
register stays (D22). -/
def installEntry (s : State) (k : AccKind) (ea : Word) (p : Word32) (level : Nat) : XlatSlot × State :=
  let slot := victim s k ea level
  let m := s.mmu k
  let prot := walkProt k slot m.pr (pteIndex p)
  let attrs := p &&& 0x3F
  let vpn := ea.setWidth 32
  let m' :=
    match slot with
    | .tlb i =>
      let mr := (vpn &&& 0xFFFFE000) ||| (m.tlbm.get i &&& 0xC0) ||| (s.cid.setWidth 32 <<< 2)
        ||| (if level = 1 then 2 else 0) ||| 1
      let tr := (tlbFrame p ++ 0#13) ||| prot ||| attrs
      { m with
        tlbm := m.tlbm.set i mr
        tlbt := m.tlbt.set i tr
        tlbVpn := m.tlbVpn.set i (some (ea.extractLsb' 32 14))
        tlbPpn := m.tlbPpn.set i (some (p.extractLsb' 10 22)) }
    | .atb e =>
      let mr := (vpn &&& 0xFFFFFC00) ||| 0x20 ||| (s.cid.setWidth 32 <<< 1) ||| 1
      let tr := (p &&& 0xFFFFFC00) ||| prot ||| attrs
      { m with
        atbm := m.atbm.set e mr, atbt := m.atbt.set e tr, atbVpn := m.atbVpn.set e (some (ea.extractLsb' 32 14)) }
  (slot, (s.drawn).setMmu k m')

/-- Write the accessed and dirty bits of a permitted access back to its PTE, where the implementation does so and they
change: the PTE is the one the tables hold now, and a reservation of its word is lost (R233, R275, log 16). -/
def writeBackPte (s : State) (k : AccKind) (ea : Word) : State :=
  if (mmuConfig s.cfg k).htr && s.cfg.htrWriteBack then
    match findPte s k ea with
    | some (a, p, _) =>
      if markAccessed k p = p then s
      else { s with mem := writePte s.mem a (markAccessed k p), resv := keepResv s.resv [a, a + 1, a + 2, a + 3] }
    | none => s
  else s

/-- The exception of an access without a translation or without permission (R264, R265). -/
def pageFault : AccKind → Exc
  | .fetch => .insnPageFault
  | .load | .store => .dataPageFault

/-- The exception of an access that misses the TLB under software reload (R264, R265). -/
def tlbMiss : AccKind → Exc
  | .fetch => .itlbMiss
  | .load | .store => .dtlbMiss

/-- Steps 2 to 4 of R264: permission, accessed and dirty bits, physical address. -/
def useEntry (s : State) (k : AccKind) (ea : Word) (slot : XlatSlot) : AccRes Nat :=
  let m := s.mmu k
  let tr := m.translateOf slot
  if tr.getLsbD (permitBit slot k s.sm) then
    .ok (entryPa s k ea slot)
      (writeBackPte (s.setMmu k (m.setTranslate slot (markAccessed k tr))) k ea)
  else .exc (pageFault k) s

/-- `translate_data` and `translate_insn` (R264, R265). -/
def translate (s : State) (k : AccKind) (ea : Word) : AccRes Nat :=
  match findEntry s k ea with
  | some slot => useEntry s k ea slot
  | none =>
    if (mmuConfig s.cfg k).htr then
      match findPte s k ea with
      | some (_, p, level) => useEntry (installEntry s k ea p level).2 k ea (installEntry s k ea p level).1
      | none => .exc (pageFault k) s
    else .exc (tlbMiss k) s

/-- Translation is on for a kind of access (R215 step 2, R216 step 2, R217). -/
def State.translated (s : State) : AccKind → Bool
  | .fetch => s.ime && hasInsnMmu s.cfg
  | .load | .store => s.dme && s.cfg.hasDmmu

/-- The physical address of an effective address; without translation the address itself within PA_BITS (R217). -/
def physical (s : State) (k : AccKind) (ea : Word) : AccRes Nat :=
  if s.translated k then translate s k ea else .ok (toU s.cfg ea % 2 ^ s.cfg.paBits) s

/-- Every entry of a TLB loses its V bit: xMMUCR[DTF], xMMUCR[ITF] (R100, R102, D20). -/
def MmuRegs.flush (m : MmuRegs) : MmuRegs := { m with tlbm := m.tlbm.map fun mr => mr &&& 0xFFFFFFFE }

/-- The entries of the selected set whose page number is that of `ea` lose their V bit, in every way and context: a write
of xTLBEIR (R104, D21). On XLEN = 64 the page number counts with its bits 45-32, as in a lookup (DESIGN CHOICE, log 15). -/
def MmuRegs.invalidate (m : MmuRegs) (c : Config) (g : MmuConfig) (ea : Word) : MmuRegs :=
  ([0, 1, 2, 3] : List (BitVec 2)).foldl
    (fun m w =>
      let i := tlbIndex w (tlbSet g ea)
      let mr := m.tlbm.get i
      if decide (w.toNat ≤ g.ntw.toNat) && decide (mr.extractLsb' 13 19 = ea.extractLsb' 13 19)
          && highPageMatches c (m.highVpn (.tlb i)) ea 0 then
        { m with tlbm := m.tlbm.set i (mr &&& 0xFFFFFFFE) }
      else m)
    m

end Sys2Proof.Machine
end

