-- ==== Sys2Proof/Machine/Ompic.lean ====
section
/-! DEFINITION. The OMPIC platform device (R910-R913). -/

namespace Sys2Proof.Machine

/-- The OMPIC's window: two words for every core (R910). -/
def inOmpic (c : Config) (pa : Nat) : Bool :=
  match c.ompic with
  | none => false
  | some o => decide (o.base ≤ pa) && decide (pa < o.base + 8 * c.numCores)

/-- The message slot of a core (R913). -/
def ompicSlot (s : State) (core : Nat) : OmpicSlot := sparseGet emptySlot s.ompic core

/-- Replace the message slot of a core. -/
def setOmpicSlot (s : State) (core : Nat) (v : OmpicSlot) : State :=
  { s with ompic := sparseSet emptySlot s.ompic core v }

/-- IRQ_ACK: the core's own request is cleared (R911, R913). -/
def ompicAck (s : State) (core : Nat) : State :=
  setOmpicSlot s core { ompicSlot s core with pend := false }

/-- IRQ_GEN: the destination core's slot holds the message and its request is raised; a number that is no core has no
effect (R911, R913). -/
def ompicSend (s : State) (core : Nat) (w : Word32) : State :=
  let d := (w.extractLsb' 16 14).toNat
  if d < s.cfg.numCores then
    setOmpicSlot s d { pend := true, src := BitVec.ofNat 14 core, data := w.extractLsb' 0 16 }
  else s

/-- A word is written to a core's control register: the acknowledge first, then the message (R913, D56). -/
def ompicControl (s : State) (core : Nat) (w : Word32) : State :=
  let s := if w.getLsbD 31 then ompicAck s core else s
  if w.getLsbD 30 then ompicSend s core w else s

/-- A word is written at `pa` in the window: to a control register; a status register ignores it (R912). -/
def ompicStore (s : State) (base pa : Nat) (w : Word32) : State :=
  if (pa - base) % 8 = 0 then ompicControl s ((pa - base) / 8) w else s

/-- What a word at `pa` in the window reads as: a status register its slot with a free bit 31, a control register a free
value (R911, R912, log 17). -/
def ompicLoad (s : State) (base pa : Nat) : Word32 :=
  if (pa - base) % 8 = 0 then s.freeWord.setWidth 32
  else
    let t := ompicSlot s ((pa - base) / 8)
    s.freeWord.extractLsb' 0 1 ++ boolBit 1 t.pend ++ t.src ++ t.data

end Sys2Proof.Machine
end

