-- ==== Sys2Proof/Machine/Flags.lean ====
section
/-! DEFINITION. The flags of SR: writing them, and the conditions each arithmetic instruction sets them by. -/

namespace Sys2Proof.Machine

/-- SR[F] <- `b` (R39). -/
def State.setF (s : State) (b : Bool) : State := { s with sr := putBit s.sr 9 b }
/-- SR[CY] <- `b` (R39). -/
def State.setCy (s : State) (b : Bool) : State := { s with sr := putBit s.sr 10 b }
/-- SR[OV] <- `b` (R39). -/
def State.setOv (s : State) (b : Bool) : State := { s with sr := putBit s.sr 11 b }

/-- The exact unsigned sum does not fit in XLEN bits: the carry of R402 and R403. -/
def addCarry (c : Config) (x y : Word) (cin : Bool) : Bool :=
  decide (2 ^ xlenBits c ≤ toU c x + toU c y + cin.toNat)

/-- The exact signed sum does not fit in XLEN bits: the overflow of R402 and R403. -/
def addOverflow (c : Config) (x y : Word) (cin : Bool) : Bool :=
  outOfRange c (toS c x + toS c y + (cin.toNat : Int))

/-- The borrow of a subtraction (R406). -/
def subCarry (c : Config) (x y : Word) : Bool := decide (toU c x < toU c y)

/-- The exact signed difference does not fit in XLEN bits (R406). -/
def subOverflow (c : Config) (x y : Word) : Bool := outOfRange c (toS c x - toS c y)

/-- The exact signed product does not fit in XLEN bits (R426). -/
def mulOverflow (c : Config) (x y : Word) : Bool := outOfRange c (toS c x * toS c y)

/-- The exact unsigned product does not fit in XLEN bits (R428). -/
def mulCarry (c : Config) (x y : Word) : Bool := decide (2 ^ xlenBits c ≤ toU c x * toU c y)

/-- An exact integer lies outside the signed 64-bit range of the accumulator (R570, R573). -/
def macOverflow (z : Int) : Bool := decide (z < -(2 : Int) ^ 63) || decide ((2 : Int) ^ 63 ≤ z)

/-- AECR and AESR bit 0, CYADDE (R60). -/
def causeCyAdd : Word32 := 0x01
/-- AECR and AESR bit 1, OVADDE (R60). -/
def causeOvAdd : Word32 := 0x02
/-- AECR and AESR bit 2, CYMULE (R60). -/
def causeCyMul : Word32 := 0x04
/-- AECR and AESR bit 3, OVMULE (R60). -/
def causeOvMul : Word32 := 0x08
/-- AECR and AESR bit 4, DBZE (R60). -/
def causeDbz : Word32 := 0x10
/-- AECR and AESR bit 5, CYMACADDE (R60). -/
def causeCyMac : Word32 := 0x20
/-- AECR and AESR bit 6, OVMACADDE (R60). -/
def causeOvMac : Word32 := 0x40

/-- The cause `m` when the flag it names was set, else none. -/
def causeIf (b : Bool) (m : Word32) : Word32 := if b then m else 0

/-- Which AECR bits an instruction that set the flags `cy` and `ov` meets and enables (R401). -/
def enabledCauses (s : State) (causes : Word32) : Word32 := s.aecr &&& causes

/-- The range exception is due after an arithmetic instruction that met `causes` and set SR[OV] to `ov` (R401, D38). -/
def rangeDue (s : State) (causes : Word32) (ov : Bool) : Bool :=
  s.ove && (if s.cfg.hasAecr then decide (enabledCauses s causes ≠ 0) else ov)

/-- AESR gains the enabled causes when it exists (R61, R401). -/
def State.recordCauses (s : State) (causes : Word32) : State :=
  if s.cfg.hasAecr then { s with aesr := s.aesr ||| enabledCauses s causes } else s

end Sys2Proof.Machine
end

