-- ==== Sys2Proof/Machine/Ops.lean ====
section
/-! DEFINITION. The operations every meaning shares: taking an exception, returning from one, advancing the program
counter, jumping, and the checks before an instruction runs. -/

namespace Sys2Proof.Machine

/-- The vector number of an exception (R851). -/
def excNumber : Exc → Nat
  | .reset => 1
  | .busError => 2
  | .dataPageFault => 3
  | .insnPageFault => 4
  | .tickTimer => 5
  | .alignment => 6
  | .illegal => 7
  | .external => 8
  | .dtlbMiss => 9
  | .itlbMiss => 10
  | .range => 11
  | .systemCall => 12
  | .floatingPoint => 13
  | .trap => 14

/-- The address of vector `v`: the EPH prefix, EVBAR and the offset, ORed (R861, D54). -/
def vectorAddr (s : State) (v : Nat) : Word :=
  (if s.eph then 0xF0000000 else 0)
    ||| (if s.cfg.hasEvbar then zext (s.evbar &&& 0xFFFFE000) else 0)
    ||| BitVec.ofNat 64 (v * 0x100)

/-- The bits of SR that software can write: those whose function exists (R36, D12). -/
def srMask (c : Config) : Word32 :=
  0x00017E07
    ||| (if c.nsgf = 0 then 0 else 0xF0000100)
    ||| (if c.leeImpl then 0x80 else 0)
    ||| (if hasInsnMmu c then 0x40 else 0)
    ||| (if c.hasDmmu then 0x20 else 0)
    ||| (if hasInsnCache c then 0x10 else 0)
    ||| (if c.hasDc then 0x08 else 0)

/-- What SR holds after software writes `w` to it: FO stays 1, reserved and absent bits 0 (R36). -/
def legalSr (c : Config) (w : Word32) : Word32 := (w &&& srMask c) ||| 0x8000

/-- The current instruction is in a delay slot (R862). -/
def State.inSlot (s : State) : Bool := s.ds.isSome

/-- The address EPCR receives: the jump's for an instruction in a delay slot, else the given one (R862, R863). -/
def State.returnAddr (s : State) (a : Word) : Word :=
  if s.inSlot then trunc s.cfg (s.pc - 4) else trunc s.cfg a

/-- The debug unit diverts this exception to the development interface (R895). -/
def State.diverts (s : State) (e : Exc) : Bool := s.cfg.hasDu && s.dbg.dsr.getLsbD (excNumber e - 1)

/-- SR on entry from the state before it: translation off, supervisor, interrupts off, DSX computed (R860). -/
def entrySr (s : State) : Word32 :=
  putBit ((s.sr &&& 0xFFFFFF98) ||| 1) 13 s.inSlot

/-- There is no further context to enter: fast context switching is active and SR[CID] is the last (R872, D53), or above it
(log 46). -/
def State.outOfContexts (s : State) : Bool := s.fastCtx && decide (s.cfg.nsgf.toNat ≤ s.cid.toNat)

/-- The context an exception is processed in (R860, R870, R872). Where SR[CID] is above NSGF it is that very number
(DESIGN CHOICE, log 46). -/
def State.entryCtx (s : State) : BitVec 4 :=
  if s.fastCtx then (if s.outOfContexts then s.cid else s.cid + 1) else 0

/-- Take exception `e`, with `a` the address R863 chooses for it and `ea` the effective address R864 records (R860). The
debug unit may stop the core instead (R895); with no context left the range exception is taken in its place (R872).
SR fills bits 31-0 of the ESR; on XLEN = 64 its bits 63-32, whose layout R42 leaves open, are zero (DESIGN CHOICE,
log 48). -/
def enter (e : Exc) (a : Word) (ea : Option Word) (s : State) : State :=
  if s.diverts e then
    { s with
      dbg := { s.dbg with drr := putBit s.dbg.drr (excNumber e - 1) true }
      status := .stopped
      exc := some e }
  else
    let n := s.entryCtx
    let v := if s.outOfContexts then excNumber .range else excNumber e
    let record := if s.outOfContexts then none else ea
    { s with
      esr := s.esr.set n (zext s.sr)
      epcr := s.epcr.set n (s.returnAddr a)
      eear := match record with
        | some x => s.eear.set n (trunc s.cfg x)
        | none => s.eear
      sr := if s.fastCtx then (entrySr s &&& 0x0FFFFFFF) ||| (n.setWidth 32 <<< 28) else entrySr s
      resv := none
      ds := none
      pc := vectorAddr s v
      exc := some e }

/-- Return from an exception: pc from the current EPCR, SR from the current ESR, both read first; a pending delay-slot
target is dropped (R553, R865, D47). -/
def returnFromExc (s : State) : State :=
  { s with
    ppc := s.pc
    pc := trunc s.cfg (s.epcr.get s.ctx)
    sr := legalSr s.cfg ((s.esr.get s.ctx).setWidth 32)
    ds := none }

/-- The current instruction counts as executed although an exception follows it: PPC holds its address (R28, R853). -/
def executed (s : State) : State := { s with ppc := s.pc }

/-- An instruction that is no jump completes: on to the pending target, else to the next address (R400, R530). -/
def advance (s : State) : State :=
  match s.ds with
  | some t => { s with ppc := s.pc, pc := t, ds := none }
  | none => { s with ppc := s.pc, pc := trunc s.cfg (s.pc + 4) }

/-- The illegal instruction exception at the current instruction (R880). -/
def illegal (s : State) : Out State := .next (enter .illegal s.pc (some s.pc) s)

/-- The checks before an instruction runs: an absent one is illegal (R322, D43), a missing register is a range exception
(R883 (b)); otherwise `run` gives the effect. -/
def gate (i : Instr) (s : State) (run : Out State) : Out State :=
  if implemented s.cfg i then
    if regsExist s.cfg i then run else .next (enter .range s.pc none s)
  else illegal s

/-- An arithmetic instruction ends, its result and flags written: the range exception if it is due, else on (R401, D44).
`causes` are the AECR conditions it met, `ov` the SR[OV] it set. -/
def finishArith (causes : Word32) (ov : Bool) (s : State) : Out State :=
  if rangeDue s causes ov then .next (enter .range s.pc none (executed (s.recordCauses causes)))
  else .next (advance s)

/-- The address a jump links: after the delay slot, or after the jump when there is none (R534). -/
def State.linkAddr (s : State) : Word := trunc s.cfg (s.pc + if s.cfg.nd then 4 else 8)

/-- Where control goes after a jump or branch that is or is not taken: at once without a delay slot, else after it (R530). -/
def jump (taken : Bool) (target : Word) (s : State) : Out State :=
  if s.inSlot then .refused .jumpInDelaySlot
  else if s.cfg.nd then
    .next { s with ppc := s.pc, pc := if taken then trunc s.cfg target else trunc s.cfg (s.pc + 4) }
  else
    .next { s with
      ppc := s.pc
      pc := trunc s.cfg (s.pc + 4)
      ds := some (if taken then trunc s.cfg target else trunc s.cfg (s.pc + 8)) }

/-- The pc-relative target of a jump (R531). -/
def State.relTarget (s : State) (n : BitVec 26) : Word := trunc s.cfg (s.pc + (n ++ 0#2).signExtend 64)

end Sys2Proof.Machine
end

