-- ==== Sys2Proof/Machine/Memory.lean ====
section
/-! DEFINITION. One data access and one fetch, step by step (R215, R216): alignment, translation, the platform's answer,
the bytes and their order, and the reservation. -/

namespace Sys2Proof.Machine

/-- A region answers a kind of access. -/
def Region.answers (r : Region) : AccKind → Bool
  | .fetch => r.fetch
  | .load => r.load
  | .store => r.store

/-- `valid_pa` (R215 step 3): some region of the platform answers there, or the OMPIC stands there (log 20). -/
def validPa (c : Config) (k : AccKind) (pa : Nat) : Bool :=
  inOmpic c pa
    || c.validPa.any fun r => decide (r.base ≤ pa) && decide (pa < r.base + r.size) && Region.answers r k

/-- The effective addresses of the bytes of an operand, from the lowest; they wrap around (R200). -/
def byteAddrs (c : Config) (ea : Word) (n : Nat) : List Word :=
  (List.range n).map fun k => trunc c (ea + BitVec.ofNat 64 k)

/-- The operand is naturally aligned (R210). -/
def aligned (ea : Word) (n : Nat) : Bool := decide (ea.toNat % n = 0)

/-- Translate and check every byte on its own: an unaligned access of an implementation that supports it (R210, D4). -/
def bytePas (k : AccKind) : List Word → State → AccRes (List Nat)
  | [], s => .ok [] s
  | a :: rest, s =>
    match physical s k a with
    | .exc e s => .exc e s
    | .refuse r => .refuse r
    | .ok pa s =>
      if validPa s.cfg k pa then
        match bytePas k rest s with
        | .ok pas s => .ok (pa :: pas) s
        | .exc e s => .exc e s
        | .refuse r => .refuse r
      else .exc .busError s

/-- The physical addresses of the bytes of an aligned operand: one translation, then the platform's answer at the operand's
address (R215, R216). -/
def wholePas (k : AccKind) (ea : Word) (n : Nat) (s : State) : AccRes (List Nat) :=
  match physical s k ea with
  | .exc e s => .exc e s
  | .refuse r => .refuse r
  | .ok pa s =>
    if validPa s.cfg k pa then .ok ((List.range n).map fun i => pa + i) s else .exc .busError s

/-- An access that raises an exception has had no effect: the exception is taken in the state `s` before it (R13 raise,
R215, D36). -/
def AccRes.undone {α : Type} (s : State) : AccRes α → AccRes α
  | .ok v t => .ok v t
  | .exc e _ => .exc e s
  | .refuse r => .refuse r

/-- Steps 1 to 3 of R215: the physical address of every byte of the operand, lowest effective address first. -/
def accessPas (k : AccKind) (ea : Word) (n : Nat) (s : State) : AccRes (List Nat) :=
  if aligned ea n then (wholePas k ea n s).undone s
  else if s.cfg.unalignedOk then (bytePas k (byteAddrs s.cfg ea n) s).undone s
  else .exc .alignment s

/-- Bytes as one value, the first the most significant (R202). -/
def joinBytes (bs : List Byte) : BitVec 64 := bs.foldl (fun acc b => (acc <<< 8) ||| b.setWidth 64) 0

/-- The low `n` bytes of a value, the most significant first (R202). -/
def splitBytes (n : Nat) (v : BitVec 64) : List Byte :=
  (List.range n).map fun k => v.extractLsb' (8 * (n - 1 - k)) 8

/-- Little-endian data order is on (R203). -/
def State.littleEndian (s : State) : Bool := s.cfg.leeImpl && s.lee

/-- The bytes of a data operand between their order in memory and most significant first (R202, R203). -/
def dataOrder (s : State) (bs : List Byte) : List Byte := if s.littleEndian then bs.reverse else bs

/-- Write bytes at physical addresses, pairwise. -/
def writeBytes (m : List Host.Cell) : List Nat → List Byte → List Host.Cell
  | a :: as, b :: bs => writeBytes (writeByte m a b) as bs
  | _, _ => m

/-- The OMPIC access that these physical addresses make, if they touch its window: `some (some base)` for an aligned word,
`some none` for anything else (R910). -/
def ompicAccess (c : Config) (pas : List Nat) : Option (Option Nat) :=
  match c.ompic with
  | none => none
  | some o =>
    if pas.any (inOmpic c) then
      match pas with
      | [p, q, r, t] =>
        if o.base ≤ p ∧ (p - o.base) % 4 = 0 ∧ q = p + 1 ∧ r = p + 2 ∧ t = p + 3 then some (some o.base) else some none
      | _ => some none
    else none

/-- The bytes at checked physical addresses, lowest effective address first: memory's, or an OMPIC word's (R215 step 4,
R910). -/
def readAt (pas : List Nat) (s : State) : AccRes (List Byte) :=
  match ompicAccess s.cfg pas with
  | none => .ok (pas.map (readByte s.mem)) s
  | some (some base) => .ok (splitBytes 4 (zext (ompicLoad s base (pas.headD 0)))) s.drawn
  | some none => .refuse .ompicAccess

/-- A load of `n` bytes: the checked addresses and the value, zero-extended; the access is recorded for the debug unit and
the counters (R13, R215). -/
def loadAt (ea : Word) (n : Nat) (s : State) : AccRes (List Nat × BitVec 64) :=
  match accessPas .load ea n s with
  | .exc e s => .exc e s
  | .refuse r => .refuse r
  | .ok pas s =>
    match readAt pas s with
    | .exc e s => .exc e s
    | .refuse r => .refuse r
    | .ok bs s =>
      let v := joinBytes (dataOrder s bs)
      .ok (pas, v) { s with acc := some { kind := .load, ea := ea, data := v } }

/-- `MemRead(EA, n)` (R13, R215). -/
def memRead (ea : Word) (n : Nat) (s : State) : AccRes (BitVec 64) :=
  match loadAt ea n s with
  | .ok (_, v) s => .ok v s
  | .exc e s => .exc e s
  | .refuse r => .refuse r

/-- The state after a store of the low `n` bytes of `v` at checked addresses, before the bytes are written: an overlapped
reservation is lost and the access recorded (R215 step 4, R231). -/
def noteStore (ea : Word) (n : Nat) (v : BitVec 64) (pas : List Nat) (s : State) : State :=
  { s with
    resv := keepResv s.resv pas
    acc := some { kind := .store, ea := ea, data := joinBytes (splitBytes n v) } }

/-- The state after the low `n` bytes of `v` are stored at checked physical addresses of memory (R215 step 4, R231). -/
def storeAt (ea : Word) (n : Nat) (v : BitVec 64) (pas : List Nat) (s : State) : State :=
  { noteStore ea n v pas s with mem := writeBytes s.mem pas (dataOrder s (splitBytes n v)) }

/-- The low `n` bytes of `v` go to checked physical addresses: memory's, or an OMPIC register (R215 step 4, R910). -/
def writeAt (ea : Word) (n : Nat) (v : BitVec 64) (pas : List Nat) (s : State) : AccRes Unit :=
  match ompicAccess s.cfg pas with
  | none => .ok () (storeAt ea n v pas s)
  | some (some base) =>
    .ok ()
      (noteStore ea n v pas
        (ompicStore s base (pas.headD 0) ((joinBytes (dataOrder s (splitBytes n v))).setWidth 32)))
  | some none => .refuse .ompicAccess

/-- `MemWrite(EA, n, v)` (R13, R215). -/
def memWrite (ea : Word) (n : Nat) (v : BitVec 64) (s : State) : AccRes Unit :=
  match accessPas .store ea n s with
  | .exc e s => .exc e s
  | .refuse r => .refuse r
  | .ok pas s => writeAt ea n v pas s

/-- `Fetch(pc)`, steps 1 to 4 of R216: always big-endian. -/
def fetchWord (s : State) : AccRes Word32 :=
  let pc := trunc s.cfg s.pc
  if aligned pc 4 then
    match (wholePas .fetch pc 4 s).undone s with
    | .exc e s => .exc e s
    | .refuse r => .refuse r
    | .ok pas s =>
      match readAt pas s with
      | .exc e s => .exc e s
      | .refuse r => .refuse r
      | .ok bs s => .ok ((joinBytes bs).setWidth 32) s
  else .exc .alignment s

/-- What an instruction answers after a data access at `ea`: what `k` says, or the exception, taken with EEAR = `ea` and
nothing else done (R215, R864). -/
def AccRes.run {α : Type} (r : AccRes α) (ea : Word) (k : α → State → Out State) : Out State :=
  match r with
  | .ok v s => k v s
  | .exc e s => .next (enter e s.pc (some ea) s)
  | .refuse r => .refused r

end Sys2Proof.Machine
end

