-- ==== Sys2Proof/Machine/Devices.lean ====
section
/-! DEFINITION. The units that run beside the core: tick timer, interrupt controller, power management, performance
counters, the reset line, and what the environment does at step 1 of R901. -/

namespace Sys2Proof.Machine

/-- The timer's registers: TTMR and TTCR. -/
abbrev Timer := Word32 × Word32

/-- TTCR[27:0] matches TTMR[TP] (R186). -/
def timerMatch (t : Timer) : Bool := decide (t.2.extractLsb' 0 28 = t.1.extractLsb' 0 28)

/-- TTMR after one clock cycle: IP is set on a match with IE (R186). -/
def timerMode (t : Timer) : Word32 := if timerMatch t && t.1.getLsbD 29 then t.1 ||| 0x10000000 else t.1

/-- TTCR after one clock cycle, by TTMR[M] (R186). -/
def timerCount (t : Timer) : Word32 :=
  match (t.1.extractLsb' 30 2).toNat with
  | 0 => t.2
  | 1 => if timerMatch t then 0 else t.2 + 1
  | 2 => if timerMatch t then t.2 else t.2 + 1
  | _ => t.2 + 1

/-- One step of the timer (R186). -/
def timerStep (t : Timer) : Timer := (timerMode t, timerCount t)

/-- `k` steps of the timer. -/
def timerSteps : Nat → Timer → Timer
  | 0, t => t
  | k + 1, t => timerSteps k (timerStep t)

/-- `k` steps of the timer; a timer that a step does not change is left as it is, whatever `k`. -/
def timerRun (k : Nat) (t : Timer) : Timer := if timerStep t = t then t else timerSteps k t

/-- How many steps the timer makes before a step of the core: at least one while instructions are executed, any number in
doze mode, none otherwise (R171, R905). The status is the one before the step: when doze or sleep ends in it, its
instruction has the steps of doze or sleep (DESIGN CHOICE, log 25). -/
def timerTicks (st : Status) (extra : Nat) : Nat :=
  match st with
  | .running => extra + 1
  | .doze => extra
  | .sleep | .suspend | .stopped => 0

/-- The timer advances before a step of the core, when there is one (R905). -/
def tickTimer (extra : Nat) (s : State) : State :=
  if s.cfg.hasTt then
    match s.status with
    | .running | .doze =>
      let t := timerRun (timerTicks s.status extra) (s.ttmr, s.ttcr)
      { s with ttmr := t.1, ttcr := t.2 }
    | .sleep | .suspend | .stopped => s
  else s

/-- The interrupt lines: the inputs, with the line the OMPIC drives at its request for this core (R906, R913). -/
def irqLines (s : State) : Word32 :=
  match s.cfg.ompic with
  | none => s.irqIn
  | some o => putBit s.irqIn o.irq.toNat (ompicSlot s s.cfg.coreId).pend

/-- PICSR: the level of a level-triggered line, the latch of an edge-triggered one (R181, R182). A legal
configuration has the OMPIC's line among the level-triggered ones (R913, log 17). -/
def picStatus (s : State) : Word32 := (irqLines s &&& ~~~s.cfg.picEdge) ||| (s.picLatch &&& s.cfg.picEdge)

/-- Rising edges are latched, and the levels remembered (R182). -/
def latchEdges (s : State) : State :=
  { s with picLatch := s.picLatch ||| (irqLines s &&& ~~~s.irqSeen), irqSeen := irqLines s }

/-- The external interrupt request: an unmasked status bit, or the one input without a controller (R182, R890, log 26). -/
def irqRequest (s : State) : Bool :=
  if s.cfg.hasPic then decide (picStatus s &&& s.picmr ≠ 0) else (irqLines s).getLsbD 0

/-- The tick timer's request, TTMR[IP] (R187). -/
def timerRequest (s : State) : Bool := s.cfg.hasTt && s.ttmr.getLsbD 28

/-- Doze and sleep end on a pending request, masked or not; PMR[DME] and PMR[SME] are cleared (R171, R897, D25). -/
def wake (s : State) : State :=
  match s.status with
  | .doze | .sleep =>
    if timerRequest s || irqRequest s then { s with status := .running, pmr := s.pmr &&& 0xFFFFFFCF } else s
  | .running | .suspend | .stopped => s

/-- The power mode that PMR asks for: suspend over sleep over doze (R171, D25). -/
def powerMode (pmr : Word32) (st : Status) : Status :=
  if pmr.getLsbD 7 then .suspend else if pmr.getLsbD 5 then .sleep else if pmr.getLsbD 4 then .doze else st

/-- Another master writes a byte: memory changes, and a reservation of that word is lost (R231 (b), R246). Inside the OMPIC
window, where R910 states no effect of a byte access, it is the memory beneath the device (DESIGN CHOICE, log 17). The bytes
that a custom instruction writes are written in the same way (`customWrites`; DESIGN CHOICE, log 19). -/
def foreignWrite (s : State) (w : Host.Cell) : State :=
  { s with mem := writeByte s.mem w.1 w.2, resv := keepResv s.resv [w.1] }

/-- Another core writes a word to its OMPIC control register: the device acts on it, and a reservation of that register is
lost (R231 (b), R913). A number that is no core's names no register, and nothing happens (log 17). -/
def foreignOmpic (s : State) (w : Nat × Word32) : State :=
  match s.cfg.ompic with
  | none => s
  | some o =>
    if w.1 < s.cfg.numCores then { ompicControl s w.1 w.2 with resv := keepResv s.resv [o.base + 8 * w.1] } else s

/-- The mode enables performance counter `i`: CIUM or CISM (R161). -/
def counterEnabled (s : State) (sm : Bool) (i : BitVec 3) : Bool :=
  (s.pcmr.get i).getLsbD (if sm then 2 else 3)

/-- `n` occurrences, in mode `sm`, of an event that bit `sel` of PCMR selects: every present counter that selects it and
is enabled advances (R160, R161). -/
def countEvent (sel : Nat) (sm : Bool) (n : Nat) (s : State) : State :=
  if s.cfg.hasPcu && decide (n ≠ 0) then
    ([0, 1, 2, 3, 4, 5, 6, 7] : List (BitVec 3)).foldl
      (fun s i =>
        if decide (i.toNat ≤ s.cfg.npcCnt.toNat) && (s.pcmr.get i).getLsbD sel && counterEnabled s sm i then
          { s with pccr := s.pccr.set i (s.pccr.get i + BitVec.ofNat 32 n) }
        else s)
      s
  else s

/-- The events that depend on the microarchitecture, as the environment reports them (R161). -/
def countUarch (e : UarchEvents) (s : State) : State :=
  countEvent 7 s.sm e.dcm (countEvent 8 s.sm e.icm (countEvent 9 s.sm e.ifs (countEvent 10 s.sm e.lsus
    (countEvent 11 s.sm e.bs (countEvent 14 s.sm e.dds s)))))

/-- The reset event: every register its reset value, memory, the platform's device, the inputs and the model's own counters
as they were (R875, R930, log 43). -/
def resetEvent (s : State) : State :=
  { State.resetOf s.cfg with
    mem := s.mem, ompic := s.ompic, irqIn := s.irqIn, irqSeen := s.irqSeen, extWp := s.extWp, env := s.env,
    free := s.free }

/-- The environment acts before a step: the head of the list, or nothing but a free number of timer steps when the list
is empty (R901 step 1, log 9, log 25). -/
def envStep (s : State) : State :=
  match s.env with
  | [] => latchEdges (tickTimer s.freeWord.toNat s).drawn
  | e :: rest =>
    let s := { s with env := rest, irqIn := e.irq, extWp := e.extWp }
    let s := e.writes.foldl foreignWrite s
    let s := e.ompicWrites.foldl foreignOmpic s
    latchEdges (countUarch e.events (tickTimer e.ticks s))

/-- The reset line is asserted (R901 step 2). -/
def resetAsserted (s : State) : Bool :=
  match s.env with
  | [] => false
  | e :: _ => e.reset

end Sys2Proof.Machine
end

