-- ==== Sys2Proof/Machine/Debug.lean ====
section
/-! DEFINITION. The debug unit: matches, watchpoints, counters and breakpoints (R147-R149, log 22). -/

namespace Sys2Proof.Machine

/-- The quantity of an instruction that DCR[CT] selects: its fetch address, or the address or data of its access (R147). -/
def debugQuantity (ct : BitVec 3) (fetch : Word) (acc : Option Access) : Option Word :=
  match ct.toNat, acc with
  | 1, _ => some fetch
  | 2, some { kind := .load, ea, .. } => some ea
  | 3, some { kind := .store, ea, .. } => some ea
  | 4, some { kind := .load, data, .. } => some data
  | 5, some { kind := .store, data, .. } => some data
  | 6, some a => some a.ea
  | 7, some a => some a.data
  | _, _ => none

/-- The comparison DCR[CC] names, the observed quantity on the left (R147, D24); masked and reserved are false. -/
def debugCompare (cc : BitVec 3) (x y : Int) : Bool :=
  match cc.toNat with
  | 1 => decide (x = y)
  | 2 => decide (x < y)
  | 3 => decide (x ≤ y)
  | 4 => decide (y < x)
  | 5 => decide (y ≤ x)
  | 6 => decide (x ≠ y)
  | _ => false

/-- Match of one DVR/DCR pair (R147). -/
def pairMatch (c : Config) (dvr dcr : Word32) (fetch : Word) (acc : Option Access) : Bool :=
  match debugQuantity (dcr.extractLsb' 5 3) fetch acc with
  | none => false
  | some q =>
    if dcr.getLsbD 4 then debugCompare (dcr.extractLsb' 1 3) (toS c q) dvr.toInt
    else debugCompare (dcr.extractLsb' 1 3) (toU c q) dvr.toNat

/-- Match `i` of the present pairs (R147). -/
def debugMatch (s : State) (fetch : Word) (acc : Option Access) (i : BitVec 3) : Bool :=
  decide (i.toNat ≤ s.cfg.ndp.toNat) && pairMatch s.cfg (s.dbg.dvr.get i) (s.dbg.dcr.get i) fetch acc

/-- A watchpoint from its match and the chained input, by its selector in DMR1; the reserved selector gives none (R142). -/
def chain (sel : BitVec 2) (m x : Bool) : Bool :=
  match sel.toNat with
  | 0 => m
  | 1 => m && x
  | 2 => m || x
  | _ => false

/-- DMR1[CWn] (R142). -/
def chainSel (s : State) (n : Nat) : BitVec 2 := s.dbg.dmr1.extractLsb' (2 * n) 2

/-- Watchpoints 0 to 7 (R142, R148). -/
def watchpoints (s : State) (fetch : Word) (acc : Option Access) : BitVec 8 :=
  let m := debugMatch s fetch acc
  let w0 := chain (chainSel s 0) (m 0) s.extWp
  let w1 := chain (chainSel s 1) (m 1) w0
  let w2 := chain (chainSel s 2) (m 2) w1
  let w3 := chain (chainSel s 3) (m 3) w2
  let w4 := chain (chainSel s 4) (m 4) s.extWp
  let w5 := chain (chainSel s 5) (m 5) w4
  let w6 := chain (chainSel s 6) (m 6) w5
  let w7 := chain (chainSel s 7) (m 7) w6
  boolBit 1 w7 ++ boolBit 1 w6 ++ boolBit 1 w5 ++ boolBit 1 w4 ++ boolBit 1 w3 ++ boolBit 1 w2 ++ boolBit 1 w1
    ++ boolBit 1 w0

/-- How many bits of `w` are set. -/
def popCount (w : BitVec 10) : Nat := ((List.range 10).filter fun i => w.getLsbD i).length

/-- A watchpoint counter register with `n` more in COUNT, modulo 2^16 (R144, R148). -/
def addCount (dwcr : Word32) (n : Nat) : Word32 := dwcr.extractLsb' 16 16 ++ (dwcr.extractLsb' 0 16 + BitVec.ofNat 16 n)

/-- The counters after these watchpoints fired: DMR2[AWTC] assigns each to a counter, DMR2[WCE] enables the counter
(R143, R148). Those that fire together count at once, so that COUNT can step over MATCH and its watchpoint does not fire
(DESIGN CHOICE, log 22). -/
def countWatchpoints (s : State) (fired : BitVec 10) : State :=
  let awtc := s.dbg.dmr2.extractLsb' 2 10
  let n0 := if s.cfg.wpci && s.dbg.dmr2.getLsbD 0 then popCount (fired &&& ~~~awtc) else 0
  let n1 := if s.cfg.wpci && s.dbg.dmr2.getLsbD 1 then popCount (fired &&& awtc) else 0
  { s with dbg := { s.dbg with dwcr0 := addCount s.dbg.dwcr0 n0, dwcr1 := addCount s.dbg.dwcr1 n1 } }

/-- A counter has reached its match value (R144, R148). -/
def counterMatch (c : Config) (dwcr : Word32) : Bool := c.wpci && decide (dwcr.extractLsb' 0 16 = dwcr.extractLsb' 16 16)

/-- Watchpoints 8 and 9 from what counters 0 and 1 feed them and the watchpoints chained to them (R142, R148). -/
def counterPoints (s : State) (m0 m1 : Bool) (w : BitVec 8) : BitVec 10 :=
  boolBit 1 (chain (chainSel s 9) m1 (w.getLsbD 7)) ++ boolBit 1 (chain (chainSel s 8) m0 (w.getLsbD 3)) ++ 0#8

/-- What a counter feeds its watchpoint before an instruction: its match, when the fetch brought it about. That is when the
watchpoints of the fetch bring COUNT to MATCH, or when the selector asks for one of these besides the match (R148, D24;
DESIGN CHOICE, log 22). -/
def fetchMatch (c : Config) (sel : BitVec 2) (before after : Word32) : Bool :=
  counterMatch c after && (!counterMatch c before || decide (sel = 1))

/-- The performance counters count watchpoints: PCMR bit 15 + i for watchpoint i (R161). PCMR bit 25, the eleventh of WPE,
which R161 calls not explained, is stored and counts nothing (DESIGN CHOICE, log 23). -/
def countWpEvents (s : State) (sm : Bool) (fired : BitVec 10) : State :=
  (List.range 10).foldl (fun s i => countEvent (15 + i) sm (fired.getLsbD i).toNat s) s

/-- The watchpoints that fired and generate a breakpoint: DMR2[WGB] (R143, R148). -/
def breakpoints (s : State) (fired : BitVec 10) : BitVec 10 := fired &&& s.dbg.dmr2.extractLsb' 12 10

/-- DMR2[WBS] records them (R143, R148). -/
def recordBreak (s : State) (fired : BitVec 10) : State :=
  { s with dbg := { s.dbg with dmr2 := s.dbg.dmr2 ||| ((breakpoints s fired).setWidth 32 <<< 22) } }

/-- Before an instruction: the watchpoints that its fetch address alone fires, 8 and 9 among them, with the registers as they
are before it, and the state in which they are counted and recorded (R148, D24, log 22). Those that the External Watchpoint
input fires by itself, for which D24 gives no timing, are among them (DESIGN CHOICE, log 22). -/
def debugBefore (s : State) : BitVec 10 × State :=
  if s.cfg.hasDu then
    let w := watchpoints s (trunc s.cfg s.pc) none
    let t := countWatchpoints s (w.setWidth 10)
    let points := counterPoints s (fetchMatch s.cfg (chainSel s 8) s.dbg.dwcr0 t.dbg.dwcr0)
      (fetchMatch s.cfg (chainSel s 9) s.dbg.dwcr1 t.dbg.dwcr1) w
    let fired := w.setWidth 10 ||| points
    (fired, recordBreak (countWpEvents (countWatchpoints t points) s.sm fired) fired)
  else (0, s)

/-- After an instruction that completed: the watchpoints its access adds, 8 and 9 from the counters as they now stand, and
whether a breakpoint, single-step or branch trace makes a trap pending (R148, R149, D24). `pre` fired before it at `pc`
in mode `sm`. The registers are those after the instruction: the `l.mtspr` that sets DMR1[ST] is trapped, the one that
clears it is not, and one that writes DVR, DCR or DMR is compared with what it wrote (DESIGN CHOICE, log 22). -/
def debugAfter (pre : BitVec 10) (pc : Word) (sm branch : Bool) (s : State) : State :=
  if s.cfg.hasDu then
    let all := watchpoints s pc s.acc
    let fired := all.setWidth 10 &&& ~~~pre
    let s := countWatchpoints s fired
    let points := counterPoints s (counterMatch s.cfg s.dbg.dwcr0) (counterMatch s.cfg s.dbg.dwcr1) all &&& ~~~pre
    let s := countWatchpoints s points
    let fired := fired ||| points
    let stop := decide (breakpoints s fired ≠ 0)
    let s := recordBreak (countWpEvents s sm fired) fired
    { s with dbgPending := stop || s.dbg.dmr1.getLsbD 22 || (branch && s.dbg.dmr1.getLsbD 23) }
  else s

/-- The instructions that branch trace traps (R149). R149 does not say which these are; the model takes the branches and
jumps of R530, conditional or not, through a register or not, and neither l.rfe nor any other (DESIGN CHOICE, log 22). -/
def isBranch : Instr → Bool
  | .lBf .. | .lBnf .. | .lJ .. | .lJal .. | .lJr .. | .lJalr .. => true
  | _ => false

end Sys2Proof.Machine
end

