-- ==== Sys2Proof/Machine/Arith.lean ====
section
/-! DEFINITION. ORBIS arithmetic, logic, shift, multiply, divide, extend and move instructions (`spec/40_orbis_arith.md`). -/

namespace Sys2Proof.Machine

/-- A result without flags: rD is written and the instruction is done. -/
def result (d : RegNo) (v : Word) (s : State) : Out State := .next (advance (s.setReg d v))

/-- The state with sum and flags of `x + y + cin` written (R402, R403). -/
def addState (d : RegNo) (x y : Word) (cin : Bool) (s : State) : State :=
  ((s.setReg d (ofN s.cfg (toU s.cfg x + toU s.cfg y + cin.toNat))).setCy (addCarry s.cfg x y cin)).setOv
    (addOverflow s.cfg x y cin)

/-- The AECR conditions an addition meets (R401). -/
def addCauses (cy ov : Bool) : Word32 := causeIf cy causeCyAdd ||| causeIf ov causeOvAdd

/-- An addition: sum, carry and overflow, then the range exception if due (R402, R403). -/
def addInto (d : RegNo) (x y : Word) (cin : Bool) (s : State) : Out State :=
  finishArith (addCauses (addCarry s.cfg x y cin) (addOverflow s.cfg x y cin)) (addOverflow s.cfg x y cin)
    (addState d x y cin s)

/-- The state with difference and flags of `x - y` written (R406). -/
def subState (d : RegNo) (x y : Word) (s : State) : State :=
  ((s.setReg d (ofI s.cfg (toS s.cfg x - toS s.cfg y))).setCy (subCarry s.cfg x y)).setOv (subOverflow s.cfg x y)

/-- `l.add` (R402). -/
def execLAdd (d a b : RegNo) (s : State) : Out State :=
  gate (.lAdd d a b) s (addInto d (s.reg a) (s.reg b) false s)

/-- `l.addc` (R403). -/
def execLAddc (d a b : RegNo) (s : State) : Out State :=
  gate (.lAddc d a b) s (addInto d (s.reg a) (s.reg b) s.cy s)

/-- `l.addi` (R404). -/
def execLAddi (d a : RegNo) (i : BitVec 16) (s : State) : Out State :=
  gate (.lAddi d a i) s (addInto d (s.reg a) (sext s.cfg i) false s)

/-- `l.addic` (R405). -/
def execLAddic (d a : RegNo) (i : BitVec 16) (s : State) : Out State :=
  gate (.lAddic d a i) s (addInto d (s.reg a) (sext s.cfg i) s.cy s)

/-- `l.sub` (R406). -/
def execLSub (d a b : RegNo) (s : State) : Out State :=
  gate (.lSub d a b) s
    (finishArith (addCauses (subCarry s.cfg (s.reg a) (s.reg b)) (subOverflow s.cfg (s.reg a) (s.reg b)))
      (subOverflow s.cfg (s.reg a) (s.reg b)) (subState d (s.reg a) (s.reg b) s))

/-- `l.and` (R407). -/
def execLAnd (d a b : RegNo) (s : State) : Out State := gate (.lAnd d a b) s (result d (s.reg a &&& s.reg b) s)

/-- `l.andi` (R408). -/
def execLAndi (d a : RegNo) (k : BitVec 16) (s : State) : Out State :=
  gate (.lAndi d a k) s (result d (s.reg a &&& zext k) s)

/-- `l.or` (R409). -/
def execLOr (d a b : RegNo) (s : State) : Out State := gate (.lOr d a b) s (result d (s.reg a ||| s.reg b) s)

/-- `l.ori` (R410). -/
def execLOri (d a : RegNo) (k : BitVec 16) (s : State) : Out State :=
  gate (.lOri d a k) s (result d (s.reg a ||| zext k) s)

/-- `l.xor` (R411). -/
def execLXor (d a b : RegNo) (s : State) : Out State := gate (.lXor d a b) s (result d (s.reg a ^^^ s.reg b) s)

/-- `l.xori`: the immediate is sign-extended (R412). -/
def execLXori (d a : RegNo) (i : BitVec 16) (s : State) : Out State :=
  gate (.lXori d a i) s (result d (s.reg a ^^^ sext s.cfg i) s)

/-- The immediate of l.movhi in the upper half of a word. How it fills bits 63-32 the configuration says, since R304 and
R413 contradict each other; on XLEN = 32 those bits fall away (DESIGN CHOICE, log 13). -/
def movhiValue (c : Config) (k : BitVec 16) : Word :=
  if c.movhiSigned then (k ++ 0#16).signExtend 64 else zext k <<< 16

/-- `l.movhi` (R304, R413, log 13). -/
def execLMovhi (d : RegNo) (k : BitVec 16) (s : State) : Out State :=
  gate (.lMovhi d k) s (result d (movhiValue s.cfg k) s)

/-- `l.adrp`: the page of the instruction plus a page offset; on XLEN = 32 the upper immediate bits fall away (R414). -/
def execLAdrp (d : RegNo) (i : BitVec 21) (s : State) : Out State :=
  gate (.lAdrp d i) s (result d ((s.pc &&& ~~~0x1FFF#64) + (i ++ 0#13).signExtend 64) s)

/-- `l.cmov` (R415). -/
def execLCmov (d a b : RegNo) (s : State) : Out State :=
  gate (.lCmov d a b) s (result d (if s.flag then s.reg a else s.reg b) s)

/-- The shift count: the low five or six bits, by XLEN (`40_orbis_arith.md` section 4). -/
def shiftCount (c : Config) (v : BitVec 6) : Nat :=
  match c.xlen with
  | .x32 => (v.setWidth 5).toNat
  | .x64 => v.toNat

/-- Shift left within XLEN bits (R416). -/
def shiftLeft (c : Config) (x : Word) (n : Nat) : Word := trunc c (x <<< n)

/-- Logical shift right within XLEN bits (R418). -/
def shiftRight (c : Config) (x : Word) (n : Nat) : Word := trunc c x >>> n

/-- Arithmetic shift right within XLEN bits (R420). -/
def shiftArith (c : Config) (x : Word) (n : Nat) : Word := ofI c (toS c x >>> n)

/-- Rotate right within XLEN bits (R424). -/
def rotate (c : Config) (x : Word) (n : Nat) : Word :=
  match c.xlen with
  | .x32 => zext ((x.setWidth 32).rotateRight n)
  | .x64 => x.rotateRight n

/-- The shift count a register operand gives. -/
def State.regCount (s : State) (b : RegNo) : Nat := shiftCount s.cfg ((s.reg b).setWidth 6)

/-- `l.sll` (R416). -/
def execLSll (d a b : RegNo) (s : State) : Out State :=
  gate (.lSll d a b) s (result d (shiftLeft s.cfg (s.reg a) (s.regCount b)) s)

/-- `l.slli` (R417). -/
def execLSlli (d a : RegNo) (l : BitVec 6) (s : State) : Out State :=
  gate (.lSlli d a l) s (result d (shiftLeft s.cfg (s.reg a) (shiftCount s.cfg l)) s)

/-- `l.srl` (R418). -/
def execLSrl (d a b : RegNo) (s : State) : Out State :=
  gate (.lSrl d a b) s (result d (shiftRight s.cfg (s.reg a) (s.regCount b)) s)

/-- `l.srli` (R419). -/
def execLSrli (d a : RegNo) (l : BitVec 6) (s : State) : Out State :=
  gate (.lSrli d a l) s (result d (shiftRight s.cfg (s.reg a) (shiftCount s.cfg l)) s)

/-- `l.sra` (R420). -/
def execLSra (d a b : RegNo) (s : State) : Out State :=
  gate (.lSra d a b) s (result d (shiftArith s.cfg (s.reg a) (s.regCount b)) s)

/-- `l.srai` (R421). -/
def execLSrai (d a : RegNo) (l : BitVec 6) (s : State) : Out State :=
  gate (.lSrai d a l) s (result d (shiftArith s.cfg (s.reg a) (shiftCount s.cfg l)) s)

/-- `l.ror` (R424). -/
def execLRor (d a b : RegNo) (s : State) : Out State :=
  gate (.lRor d a b) s (result d (rotate s.cfg (s.reg a) (s.regCount b)) s)

/-- `l.rori` (R425). -/
def execLRori (d a : RegNo) (l : BitVec 6) (s : State) : Out State :=
  gate (.lRori d a l) s (result d (rotate s.cfg (s.reg a) (shiftCount s.cfg l)) s)

/-- The state with the signed product and SR[OV] written (R426). -/
def mulState (d : RegNo) (x y : Word) (s : State) : State :=
  (s.setReg d (ofI s.cfg (toS s.cfg x * toS s.cfg y))).setOv (mulOverflow s.cfg x y)

/-- A signed multiplication, then the range exception if due (R426). -/
def mulInto (d : RegNo) (x y : Word) (s : State) : Out State :=
  finishArith (causeIf (mulOverflow s.cfg x y) causeOvMul) (mulOverflow s.cfg x y) (mulState d x y s)

/-- The state with the unsigned product and SR[CY] written (R428). -/
def muluState (d : RegNo) (x y : Word) (s : State) : State :=
  (s.setReg d (ofN s.cfg (toU s.cfg x * toU s.cfg y))).setCy (mulCarry s.cfg x y)

/-- `l.mul` (R426). -/
def execLMul (d a b : RegNo) (s : State) : Out State := gate (.lMul d a b) s (mulInto d (s.reg a) (s.reg b) s)

/-- `l.muli` (R427). -/
def execLMuli (d a : RegNo) (i : BitVec 16) (s : State) : Out State :=
  gate (.lMuli d a i) s (mulInto d (s.reg a) (sext s.cfg i) s)

/-- `l.mulu` (R428). -/
def execLMulu (d a b : RegNo) (s : State) : Out State :=
  gate (.lMulu d a b) s
    (finishArith (causeIf (mulCarry s.cfg (s.reg a) (s.reg b)) causeCyMul) false (muluState d (s.reg a) (s.reg b) s))

/-- `l.muld`: the signed product in the accumulator; on XLEN = 64 what is kept and the flag are free values (R422,
log 11). -/
def execLMuld (a b : RegNo) (s : State) : Out State :=
  gate (.lMuld a b) s
    (match s.cfg.xlen with
    | .x32 => .next (advance (s.setMac (BitVec.ofInt 64 (toS s.cfg (s.reg a) * toS s.cfg (s.reg b)))))
    | .x64 =>
      let ov := s.drawn.freeWord.getLsbD 0
      finishArith (causeIf ov causeOvMul) ov ((s.setMac s.freeWord).drawn.drawn.setOv ov))

/-- `l.muldu`: the unsigned product in the accumulator; on XLEN = 64 what is kept and the flag are free values (R423,
log 11). -/
def execLMuldu (a b : RegNo) (s : State) : Out State :=
  gate (.lMuldu a b) s
    (match s.cfg.xlen with
    | .x32 => .next (advance (s.setMac (BitVec.ofNat 64 (toU s.cfg (s.reg a) * toU s.cfg (s.reg b)))))
    | .x64 =>
      let cy := s.drawn.freeWord.getLsbD 0
      finishArith (causeIf cy causeCyMul) false ((s.setMac s.freeWord).drawn.drawn.setCy cy))

/-- The state with the signed quotient and SR[OV] written; a zero divisor leaves a free quotient (R429, D6, log 10). -/
def divState (d : RegNo) (x y : Word) (s : State) : State :=
  if toS s.cfg y = 0 then (s.drawn.setReg d s.freeWord).setOv true
  else (s.setReg d (ofI s.cfg (Int.tdiv (toS s.cfg x) (toS s.cfg y)))).setOv false

/-- The state with the unsigned quotient and SR[CY] written; a zero divisor leaves a free quotient (R430, D6, log 10). -/
def divuState (d : RegNo) (x y : Word) (s : State) : State :=
  if toU s.cfg y = 0 then (s.drawn.setReg d s.freeWord).setCy true
  else (s.setReg d (ofN s.cfg (toU s.cfg x / toU s.cfg y))).setCy false

/-- `l.div` (R429). -/
def execLDiv (d a b : RegNo) (s : State) : Out State :=
  gate (.lDiv d a b) s
    (finishArith (causeIf (decide (toS s.cfg (s.reg b) = 0)) causeDbz) (decide (toS s.cfg (s.reg b) = 0))
      (divState d (s.reg a) (s.reg b) s))

/-- `l.divu` (R430). -/
def execLDivu (d a b : RegNo) (s : State) : Out State :=
  gate (.lDivu d a b) s
    (finishArith (causeIf (decide (toU s.cfg (s.reg b) = 0)) causeDbz) false (divuState d (s.reg a) (s.reg b) s))

/-- `l.extbs` (R431). -/
def execLExtbs (d a : RegNo) (s : State) : Out State :=
  gate (.lExtbs d a) s (result d (sext s.cfg ((s.reg a).setWidth 8)) s)

/-- `l.extbz` (R432). -/
def execLExtbz (d a : RegNo) (s : State) : Out State :=
  gate (.lExtbz d a) s (result d (zext ((s.reg a).setWidth 8)) s)

/-- `l.exths` (R433). -/
def execLExths (d a : RegNo) (s : State) : Out State :=
  gate (.lExths d a) s (result d (sext s.cfg ((s.reg a).setWidth 16)) s)

/-- `l.exthz` (R434). -/
def execLExthz (d a : RegNo) (s : State) : Out State :=
  gate (.lExthz d a) s (result d (zext ((s.reg a).setWidth 16)) s)

/-- `l.extws`: a move on XLEN = 32 (R435). -/
def execLExtws (d a : RegNo) (s : State) : Out State :=
  gate (.lExtws d a) s (result d (sext s.cfg ((s.reg a).setWidth 32)) s)

/-- `l.extwz`: a move on XLEN = 32 (R436). -/
def execLExtwz (d a : RegNo) (s : State) : Out State :=
  gate (.lExtwz d a) s (result d (zext ((s.reg a).setWidth 32)) s)

/-- One more than the number of the lowest set bit, or 0 (R437). -/
def findFirst (c : Config) (x : Word) : Nat :=
  match (List.range (xlenBits c)).find? fun i => x.getLsbD i with
  | some i => i + 1
  | none => 0

/-- One more than the number of the highest set bit, or 0 (R438). -/
def findLast (c : Config) (x : Word) : Nat :=
  match (List.range (xlenBits c)).reverse.find? fun i => x.getLsbD i with
  | some i => i + 1
  | none => 0

/-- `l.ff1` (R437). -/
def execLFf1 (d a : RegNo) (s : State) : Out State :=
  gate (.lFf1 d a) s (result d (BitVec.ofNat 64 (findFirst s.cfg (s.reg a))) s)

/-- `l.fl1` (R438). -/
def execLFl1 (d a : RegNo) (s : State) : Out State :=
  gate (.lFl1 d a) s (result d (BitVec.ofNat 64 (findLast s.cfg (s.reg a))) s)

end Sys2Proof.Machine
end

