-- ==== Sys2Proof/Machine/Compare.lean ====
section
/-! DEFINITION. ORBIS compare instructions: each writes SR[F] and nothing else (`spec/41_orbis_compare.md`). -/

namespace Sys2Proof.Machine

/-- A compare ends: SR[F] gets the truth value, the instruction is done (R460). -/
def setFlag (b : Bool) (s : State) : Out State := .next (advance (s.setF b))

/-- Equal over XLEN bits (R462). -/
def cmpEq (c : Config) (x y : Word) : Bool := decide (toU c x = toU c y)
/-- Unsigned greater than (R464). -/
def cmpGtu (c : Config) (x y : Word) : Bool := decide (toU c y < toU c x)
/-- Unsigned greater than or equal (R465). -/
def cmpGeu (c : Config) (x y : Word) : Bool := decide (toU c y ≤ toU c x)
/-- Unsigned less than (R466). -/
def cmpLtu (c : Config) (x y : Word) : Bool := decide (toU c x < toU c y)
/-- Unsigned less than or equal (R467). -/
def cmpLeu (c : Config) (x y : Word) : Bool := decide (toU c x ≤ toU c y)
/-- Signed greater than (R468). -/
def cmpGts (c : Config) (x y : Word) : Bool := decide (toS c y < toS c x)
/-- Signed greater than or equal (R469). -/
def cmpGes (c : Config) (x y : Word) : Bool := decide (toS c y ≤ toS c x)
/-- Signed less than (R470). -/
def cmpLts (c : Config) (x y : Word) : Bool := decide (toS c x < toS c y)
/-- Signed less than or equal (R471). -/
def cmpLes (c : Config) (x y : Word) : Bool := decide (toS c x ≤ toS c y)

/-- `l.sfeq` (R462). -/
def execLSfeq (a b : RegNo) (s : State) : Out State :=
  gate (.lSfeq a b) s (setFlag (cmpEq s.cfg (s.reg a) (s.reg b)) s)

/-- `l.sfne` (R463). -/
def execLSfne (a b : RegNo) (s : State) : Out State :=
  gate (.lSfne a b) s (setFlag (!cmpEq s.cfg (s.reg a) (s.reg b)) s)

/-- `l.sfgtu` (R464). -/
def execLSfgtu (a b : RegNo) (s : State) : Out State :=
  gate (.lSfgtu a b) s (setFlag (cmpGtu s.cfg (s.reg a) (s.reg b)) s)

/-- `l.sfgeu` (R465). -/
def execLSfgeu (a b : RegNo) (s : State) : Out State :=
  gate (.lSfgeu a b) s (setFlag (cmpGeu s.cfg (s.reg a) (s.reg b)) s)

/-- `l.sfltu` (R466). -/
def execLSfltu (a b : RegNo) (s : State) : Out State :=
  gate (.lSfltu a b) s (setFlag (cmpLtu s.cfg (s.reg a) (s.reg b)) s)

/-- `l.sfleu` (R467). -/
def execLSfleu (a b : RegNo) (s : State) : Out State :=
  gate (.lSfleu a b) s (setFlag (cmpLeu s.cfg (s.reg a) (s.reg b)) s)

/-- `l.sfgts` (R468). -/
def execLSfgts (a b : RegNo) (s : State) : Out State :=
  gate (.lSfgts a b) s (setFlag (cmpGts s.cfg (s.reg a) (s.reg b)) s)

/-- `l.sfges` (R469). -/
def execLSfges (a b : RegNo) (s : State) : Out State :=
  gate (.lSfges a b) s (setFlag (cmpGes s.cfg (s.reg a) (s.reg b)) s)

/-- `l.sflts` (R470). -/
def execLSflts (a b : RegNo) (s : State) : Out State :=
  gate (.lSflts a b) s (setFlag (cmpLts s.cfg (s.reg a) (s.reg b)) s)

/-- `l.sfles` (R471). -/
def execLSfles (a b : RegNo) (s : State) : Out State :=
  gate (.lSfles a b) s (setFlag (cmpLes s.cfg (s.reg a) (s.reg b)) s)

/-- `l.sfeqi`: the immediate is sign-extended (R461, R472). -/
def execLSfeqi (a : RegNo) (i : BitVec 16) (s : State) : Out State :=
  gate (.lSfeqi a i) s (setFlag (cmpEq s.cfg (s.reg a) (sext s.cfg i)) s)

/-- `l.sfnei`: the immediate is sign-extended (R461, R473). -/
def execLSfnei (a : RegNo) (i : BitVec 16) (s : State) : Out State :=
  gate (.lSfnei a i) s (setFlag (!cmpEq s.cfg (s.reg a) (sext s.cfg i)) s)

/-- `l.sfgtui`: the immediate is sign-extended (R461, R474). -/
def execLSfgtui (a : RegNo) (i : BitVec 16) (s : State) : Out State :=
  gate (.lSfgtui a i) s (setFlag (cmpGtu s.cfg (s.reg a) (sext s.cfg i)) s)

/-- `l.sfgeui`: the immediate is sign-extended (R461, R475). -/
def execLSfgeui (a : RegNo) (i : BitVec 16) (s : State) : Out State :=
  gate (.lSfgeui a i) s (setFlag (cmpGeu s.cfg (s.reg a) (sext s.cfg i)) s)

/-- `l.sfltui`: the immediate is sign-extended (R461, R476). -/
def execLSfltui (a : RegNo) (i : BitVec 16) (s : State) : Out State :=
  gate (.lSfltui a i) s (setFlag (cmpLtu s.cfg (s.reg a) (sext s.cfg i)) s)

/-- `l.sfleui`: the immediate is sign-extended (R461, R477). -/
def execLSfleui (a : RegNo) (i : BitVec 16) (s : State) : Out State :=
  gate (.lSfleui a i) s (setFlag (cmpLeu s.cfg (s.reg a) (sext s.cfg i)) s)

/-- `l.sfgtsi`: the immediate is sign-extended (R461, R478). -/
def execLSfgtsi (a : RegNo) (i : BitVec 16) (s : State) : Out State :=
  gate (.lSfgtsi a i) s (setFlag (cmpGts s.cfg (s.reg a) (sext s.cfg i)) s)

/-- `l.sfgesi`: the immediate is sign-extended (R461, R479). -/
def execLSfgesi (a : RegNo) (i : BitVec 16) (s : State) : Out State :=
  gate (.lSfgesi a i) s (setFlag (cmpGes s.cfg (s.reg a) (sext s.cfg i)) s)

/-- `l.sfltsi`: the immediate is sign-extended (R461, R480). -/
def execLSfltsi (a : RegNo) (i : BitVec 16) (s : State) : Out State :=
  gate (.lSfltsi a i) s (setFlag (cmpLts s.cfg (s.reg a) (sext s.cfg i)) s)

/-- `l.sflesi`: the immediate is sign-extended (R461, R481). -/
def execLSflesi (a : RegNo) (i : BitVec 16) (s : State) : Out State :=
  gate (.lSflesi a i) s (setFlag (cmpLes s.cfg (s.reg a) (sext s.cfg i)) s)

end Sys2Proof.Machine
end

