-- ==== Sys2Proof/Machine/Control.lean ====
section
/-! DEFINITION. ORBIS jumps, branches and l.nop (`spec/43_orbis_control.md`). -/

namespace Sys2Proof.Machine

/-- `l.bf` (R535). -/
def execLBf (n : BitVec 26) (s : State) : Out State := gate (.lBf n) s (jump s.flag (s.relTarget n) s)

/-- `l.bnf` (R536). -/
def execLBnf (n : BitVec 26) (s : State) : Out State := gate (.lBnf n) s (jump (!s.flag) (s.relTarget n) s)

/-- `l.j` (R537). -/
def execLJ (n : BitVec 26) (s : State) : Out State := gate (.lJ n) s (jump true (s.relTarget n) s)

/-- `l.jal`: r9 is the link register (R534, R538). -/
def execLJal (n : BitVec 26) (s : State) : Out State :=
  gate (.lJal n) s (jump true (s.relTarget n) (s.setReg 9 s.linkAddr))

/-- `l.jr` (R539). -/
def execLJr (b : RegNo) (s : State) : Out State := gate (.lJr b) s (jump true (s.reg b) s)

/-- `l.jalr`: rB is read before r9 is written (R534, R540). -/
def execLJalr (b : RegNo) (s : State) : Out State :=
  gate (.lJalr b) s (jump true (s.reg b) (s.setReg 9 s.linkAddr))

/-- `l.nop`: K has no effect (R541, D42). -/
def execLNop (k : BitVec 16) (s : State) : Out State := gate (.lNop k) s (.next (advance s))

end Sys2Proof.Machine
end

