-- ==== Sys2Proof/Machine/Spr.lean ====
section
/-! DEFINITION. The special-purpose register space: which register an address names, whether it is implemented, who may
read and write it, and what a read gives and a write does (R30-R34 and the register rules). -/

namespace Sys2Proof.Machine

/-- The cache block registers (R122-R129). -/
inductive CacheOp where
  | dcbpr
  | dcbfr
  | dcbir
  | dcbwr
  | dcblr
  | icbpr
  | icbir
  | icblr
deriving DecidableEq, Repr

/-- The special-purpose registers of Table 4-2 (R34). The kind `fetch` stands for the instruction MMU, `load` for the data
MMU; a TLB index is the way followed by the set. -/
inductive Spr where
  | vr
  | upr
  | cpucfgr
  | dmmucfgr
  | immucfgr
  | dccfgr
  | iccfgr
  | dcfgr
  | pccfgr
  | vr2
  | avr
  | evbar
  | aecr
  | aesr
  | npc
  | sr
  | ppc
  | fpcsr
  | isr (i : BitVec 3)
  | epcr (i : BitVec 4)
  | eear (i : BitVec 4)
  | esr (i : BitVec 4)
  | coreid
  | numcores
  | gpr (i : BitVec 9)
  | mmucr (side : AccKind)
  | mmupr (side : AccKind)
  | tlbeir (side : AccKind)
  | atbmr (side : AccKind) (k : BitVec 2)
  | atbtr (side : AccKind) (k : BitVec 2)
  | tlbmr (side : AccKind) (i : BitVec 9)
  | tlbtr (side : AccKind) (i : BitVec 9)
  | dccr
  | iccr
  | cacheBlock (op : CacheOp)
  | maclo
  | machi
  | fpmaddlo
  | fpmaddhi
  | vmaclo
  | vmachi
  | dvr (i : BitVec 3)
  | dcr (i : BitVec 3)
  | dmr1
  | dmr2
  | dwcr0
  | dwcr1
  | dsr
  | drr
  | pccr (i : BitVec 3)
  | pcmr (i : BitVec 3)
  | pmr
  | picmr
  | picsr
  | ttmr
  | ttcr
deriving DecidableEq, Repr

/-- Group 0 (R34). -/
def sprSystem (i : BitVec 11) : Option Spr :=
  match i.toNat with
  | 0 => some .vr
  | 1 => some .upr
  | 2 => some .cpucfgr
  | 3 => some .dmmucfgr
  | 4 => some .immucfgr
  | 5 => some .dccfgr
  | 6 => some .iccfgr
  | 7 => some .dcfgr
  | 8 => some .pccfgr
  | 9 => some .vr2
  | 10 => some .avr
  | 11 => some .evbar
  | 12 => some .aecr
  | 13 => some .aesr
  | 16 => some .npc
  | 17 => some .sr
  | 18 => some .ppc
  | 20 => some .fpcsr
  | 128 => some .coreid
  | 129 => some .numcores
  | n =>
    if 21 ≤ n ∧ n ≤ 28 then some (.isr (BitVec.ofNat 3 (n - 21)))
    else if 32 ≤ n ∧ n ≤ 47 then some (.epcr (i.extractLsb' 0 4))
    else if 48 ≤ n ∧ n ≤ 63 then some (.eear (i.extractLsb' 0 4))
    else if 64 ≤ n ∧ n ≤ 79 then some (.esr (i.extractLsb' 0 4))
    else if 1024 ≤ n ∧ n ≤ 1535 then some (.gpr (i.extractLsb' 0 9))
    else none

/-- Groups 1 and 2 (R34): the control registers, the ATB, and the TLB windows of 128 match and 128 translate registers
for each way. -/
def sprMmu (side : AccKind) (i : BitVec 11) : Option Spr :=
  match i.toNat with
  | 0 => some (.mmucr side)
  | 1 => some (.mmupr side)
  | 2 => some (.tlbeir side)
  | n =>
    if 4 ≤ n ∧ n ≤ 7 then some (.atbmr side (i.extractLsb' 0 2))
    else if 8 ≤ n ∧ n ≤ 11 then some (.atbtr side (i.extractLsb' 0 2))
    else if 512 ≤ n ∧ n ≤ 1535 then
      let j := i - 512
      let index := tlbIndex (j.extractLsb' 8 2) (j.extractLsb' 0 7)
      if j.getLsbD 7 then some (.tlbtr side index) else some (.tlbmr side index)
    else none

/-- The register at a 16-bit address: group in bits 15-11, index in bits 10-0 (R30, R34). -/
def sprAt (a : BitVec 16) : Option Spr :=
  let i := a.extractLsb' 0 11
  match (a.extractLsb' 11 5).toNat with
  | 0 => sprSystem i
  | 1 => sprMmu .load i
  | 2 => sprMmu .fetch i
  | 3 =>
    match i.toNat with
    | 0 => some .dccr
    | 1 => some (.cacheBlock .dcbpr)
    | 2 => some (.cacheBlock .dcbfr)
    | 3 => some (.cacheBlock .dcbir)
    | 4 => some (.cacheBlock .dcbwr)
    | 5 => some (.cacheBlock .dcblr)
    | _ => none
  | 4 =>
    match i.toNat with
    | 0 => some .iccr
    | 1 => some (.cacheBlock .icbpr)
    | 2 => some (.cacheBlock .icbir)
    | 3 => some (.cacheBlock .icblr)
    | _ => none
  | 5 =>
    match i.toNat with
    | 1 => some .maclo
    | 2 => some .machi
    | 3 => some .fpmaddlo
    | 4 => some .fpmaddhi
    | 5 => some .vmaclo
    | 6 => some .vmachi
    | _ => none
  | 6 =>
    match i.toNat with
    | 16 => some .dmr1
    | 17 => some .dmr2
    | 18 => some .dwcr0
    | 19 => some .dwcr1
    | 20 => some .dsr
    | 21 => some .drr
    | n =>
      if n < 8 then some (.dvr (i.extractLsb' 0 3))
      else if n < 16 then some (.dcr (i.extractLsb' 0 3))
      else none
  | 7 =>
    let n := i.toNat
    if n < 8 then some (.pccr (i.extractLsb' 0 3))
    else if n < 16 then some (.pcmr (i.extractLsb' 0 3))
    else none
  | 8 => if i = 0 then some .pmr else none
  | 9 => if i = 0 then some .picmr else if i = 2 then some .picsr else none
  | 10 => if i = 0 then some .ttmr else if i = 1 then some .ttcr else none
  | _ => none

/-- The MMU of a side is there: UPR[DMP], UPR[IMP] (R51). -/
def hasMmu (c : Config) : AccKind → Bool
  | .fetch => hasInsnMmu c
  | .load | .store => c.hasDmmu

/-- The TLB entry exists: its way and its set (R105). -/
def tlbEntryPresent (g : MmuConfig) (i : BitVec 9) : Bool :=
  decide ((i.extractLsb' 7 2).toNat ≤ g.ntw.toNat) && decide ((i.extractLsb' 0 7).toNat < 2 ^ g.nts.toNat)

/-- The cache block register is implemented (R52, R53, R122-R129). -/
def cacheOpPresent (c : Config) : CacheOp → Bool
  | .dcbpr => c.hasDc && c.dc.cbpri
  | .dcbfr => c.hasDc && c.dc.cbfri
  | .dcbir => c.hasDc && c.dc.cbiri
  | .dcbwr => c.hasDc && c.dc.cbwbri
  | .dcblr => c.hasDc && c.dc.cblri
  | .icbpr => hasInsnCache c && (insnCache c).cbpri
  | .icbir => hasInsnCache c && (insnCache c).cbiri
  | .icblr => hasInsnCache c && (insnCache c).cblri

/-- The register is implemented (R31, R43 and the presence sentence of each register's rule). That the
accumulators FPMADDLO, FPMADDHI, VMACLO and VMACHI do not depend on HAS_MAC is the model's (DESIGN CHOICE, log 45). -/
def sprPresent (c : Config) : Spr → Bool
  | .vr | .npc | .sr | .ppc | .coreid | .numcores => true
  | .upr | .cpucfgr | .dmmucfgr | .immucfgr | .dccfgr | .iccfgr | .dcfgr | .pccfgr => c.hasCfgRegs
  | .vr2 => c.hasVr2
  | .avr => c.hasAvr
  | .evbar => c.hasEvbar
  | .aecr | .aesr => c.hasAecr
  | .fpcsr | .fpmaddlo | .fpmaddhi => hasFp c
  | .isr _ => c.hasIsr
  | .epcr i | .eear i | .esr i => decide (i.toNat ≤ c.nsgf.toNat)
  | .gpr i => decide ((i.extractLsb' 5 4).toNat ≤ c.nsgf.toNat) && decide ((i.extractLsb' 0 5).toNat < c.ngpr)
  | .mmucr k => hasMmu c k && (mmuConfig c k).cri
  | .mmupr k => hasMmu c k && (mmuConfig c k).pri
  | .tlbeir k => hasMmu c k && (mmuConfig c k).teiri
  | .atbmr k e | .atbtr k e => hasMmu c k && decide (e.toNat < (mmuConfig c k).nae.toNat)
  | .tlbmr k i | .tlbtr k i => hasMmu c k && tlbEntryPresent (mmuConfig c k) i
  | .dccr => c.hasDc && c.dc.ccri
  | .iccr => hasInsnCache c && (insnCache c).ccri
  | .cacheBlock op => cacheOpPresent c op
  | .maclo | .machi => c.hasMac
  | .vmaclo | .vmachi => c.orvdx64
  | .dvr i | .dcr i => c.hasDu && decide (i.toNat ≤ c.ndp.toNat)
  | .dmr1 | .dmr2 | .dsr | .drr => c.hasDu
  | .dwcr0 | .dwcr1 => c.hasDu && c.wpci
  | .pccr i | .pcmr i => c.hasPcu && decide (i.toNat ≤ c.npcCnt.toNat)
  | .pmr => c.hasPm
  | .picmr | .picsr => c.hasPic
  | .ttmr | .ttcr => c.hasTt

/-- The mode may read the register (R32, R34): `R*` registers in user mode only with SR[SUMRA]; the write-only ones never. -/
def sprReadable (sm sumra : Bool) : Spr → Bool
  | .tlbeir _ | .cacheBlock _ => false
  | .fpcsr | .maclo | .machi | .fpmaddlo | .fpmaddhi | .vmaclo | .vmachi => true
  | .pccr _ | .ttcr => sm || sumra
  | .vr | .upr | .cpucfgr | .dmmucfgr | .immucfgr | .dccfgr | .iccfgr | .dcfgr | .pccfgr | .vr2 | .avr | .evbar | .aecr
  | .aesr | .npc | .sr | .ppc | .isr _ | .epcr _ | .eear _ | .esr _ | .coreid | .numcores | .gpr _ | .mmucr _ | .mmupr _
  | .atbmr .. | .atbtr .. | .tlbmr .. | .tlbtr .. | .dccr | .iccr | .dvr _ | .dcr _ | .dmr1 | .dmr2 | .dwcr0 | .dwcr1
  | .dsr | .drr | .pcmr _ | .pmr | .picmr | .picsr | .ttmr => sm

/-- The mode may write the register (R32, R34): the read-only ones never. -/
def sprWritable (sm : Bool) : Spr → Bool
  | .vr | .upr | .cpucfgr | .dmmucfgr | .immucfgr | .dccfgr | .iccfgr | .dcfgr | .pccfgr | .vr2 | .avr | .ppc | .isr _
  | .coreid | .numcores => false
  | .fpcsr | .maclo | .machi | .fpmaddlo | .fpmaddhi | .vmaclo | .vmachi => true
  | .cacheBlock .dcbpr | .cacheBlock .dcbfr | .cacheBlock .dcbwr | .cacheBlock .dcblr | .cacheBlock .icbpr
  | .cacheBlock .icbir | .cacheBlock .icblr => true
  | .cacheBlock .dcbir | .evbar | .aecr | .aesr | .npc | .sr | .epcr _ | .eear _ | .esr _ | .gpr _ | .mmucr _ | .mmupr _
  | .tlbeir _ | .atbmr .. | .atbtr .. | .tlbmr .. | .tlbtr .. | .dccr | .iccr | .dvr _ | .dcr _ | .dmr1 | .dmr2 | .dwcr0
  | .dwcr1 | .dsr | .drr | .pccr _ | .pcmr _ | .pmr | .picmr | .picsr | .ttmr | .ttcr => sm

/-- VR (R50). -/
def vrValue (c : Config) : Word32 := c.vrVer ++ c.vrCfg ++ 0#9 ++ boolBit 1 c.hasVr2 ++ c.vrRev

/-- UPR (R51). -/
def uprValue (c : Config) : Word32 :=
  c.cup ++ 0#13 ++ boolBit 1 c.hasTt ++ boolBit 1 c.hasPm ++ boolBit 1 c.hasPic ++ boolBit 1 c.hasPcu
    ++ boolBit 1 c.hasDu ++ boolBit 1 c.hasMac ++ boolBit 1 (hasInsnMmu c) ++ boolBit 1 c.hasDmmu ++ boolBit 1 (hasInsnCache c)
    ++ boolBit 1 c.hasDc ++ boolBit 1 c.hasCfgRegs

/-- CPUCFGR (R54). -/
def cpucfgrValue (c : Config) : Word32 :=
  0#16 ++ boolBit 1 c.orfpx64a32 ++ boolBit 1 c.hasAecr ++ boolBit 1 c.hasIsr ++ boolBit 1 c.hasEvbar
    ++ boolBit 1 c.hasAvr ++ boolBit 1 c.nd ++ boolBit 1 c.orvdx64 ++ boolBit 1 c.orfpx64 ++ boolBit 1 c.orfpx32
    ++ boolBit 1 (c.xlen == .x64) ++ 1#1 ++ boolBit 1 (decide (c.ngpr < 32)) ++ c.nsgf

/-- DMMUCFGR and IMMUCFGR (R55). -/
def mmucfgrValue (g : MmuConfig) : Word32 :=
  0#20 ++ boolBit 1 g.htr ++ boolBit 1 g.teiri ++ boolBit 1 g.pri ++ boolBit 1 g.cri ++ g.nae ++ g.nts ++ g.ntw

/-- DCCFGR (R52). -/
def dccfgrValue (g : CacheConfig) : Word32 :=
  0#17 ++ boolBit 1 g.cbwbri ++ boolBit 1 g.cbfri ++ boolBit 1 g.cblri ++ boolBit 1 g.cbpri ++ boolBit 1 g.cbiri
    ++ boolBit 1 g.ccri ++ boolBit 1 g.cws ++ boolBit 1 g.cbs ++ g.ncs ++ g.ncw

/-- ICCFGR (R53). -/
def iccfgrValue (g : CacheConfig) : Word32 :=
  0#19 ++ boolBit 1 g.cblri ++ boolBit 1 g.cbpri ++ boolBit 1 g.cbiri ++ boolBit 1 g.ccri ++ 0#1 ++ boolBit 1 g.cbs
    ++ g.ncs ++ g.ncw

/-- The address of the instruction after the current one, SPR NPC (R28, log 36). -/
def State.nextPc (s : State) : Word :=
  match s.ds with
  | some t => t
  | none => trunc s.cfg (s.pc + 4)

/-- What a register that is implemented and readable holds; a 32-bit one zero-extended (R33, R555). -/
def readReg (s : State) : Spr → Word
  | .vr => zext (vrValue s.cfg)
  | .upr => zext (uprValue s.cfg)
  | .cpucfgr => zext (cpucfgrValue s.cfg)
  | .dmmucfgr => zext (mmucfgrValue s.cfg.dmmu)
  | .immucfgr => zext (mmucfgrValue (mmuConfig s.cfg .fetch))
  | .dccfgr => zext (dccfgrValue s.cfg.dc)
  | .iccfgr => zext (iccfgrValue (insnCache s.cfg))
  | .dcfgr => zext (0#28 ++ boolBit 1 s.cfg.wpci ++ s.cfg.ndp)
  | .pccfgr => zext s.cfg.npcCnt
  | .vr2 => zext (s.cfg.vr2Cpuid ++ s.cfg.vr2Ver)
  | .avr => zext (s.cfg.avrMaj ++ s.cfg.avrMin ++ s.cfg.avrRev ++ 0#8)
  | .evbar => zext s.evbar
  | .aecr => zext s.aecr
  | .aesr => zext s.aesr
  | .npc => s.nextPc
  | .sr => zext s.sr
  | .ppc => s.ppc
  | .fpcsr => zext s.fpcsr
  | .isr i => zext (s.cfg.isr[i.toNat]'i.isLt)
  | .epcr i => s.epcr.get i
  | .eear i => s.eear.get i
  | .esr i => s.esr.get i
  | .coreid => ofN s.cfg s.cfg.coreId
  | .numcores => ofN s.cfg s.cfg.numCores
  | .gpr i => trunc s.cfg (s.gpr.get i)
  | .mmucr k => zext (s.mmu k).cr
  | .mmupr k => zext (s.mmu k).pr
  | .atbmr k e => zext ((s.mmu k).atbm.get e)
  | .atbtr k e => zext ((s.mmu k).atbt.get e)
  | .tlbmr k i => zext ((s.mmu k).tlbm.get i)
  | .tlbtr k i => zext ((s.mmu k).tlbt.get i)
  | .tlbeir _ | .cacheBlock _ => 0
  | .dccr => zext s.dccr
  | .iccr => zext (if s.cfg.unifiedCache then s.dccr else s.iccr)
  | .maclo => zext s.maclo
  | .machi => zext s.machi
  | .fpmaddlo => zext s.fpmaddlo
  | .fpmaddhi => zext s.fpmaddhi
  | .vmaclo => s.vmaclo
  | .vmachi => s.vmachi
  | .dvr i => zext (s.dbg.dvr.get i)
  | .dcr i => zext (s.dbg.dcr.get i ||| 1)
  | .dmr1 => zext s.dbg.dmr1
  | .dmr2 => zext s.dbg.dmr2
  | .dwcr0 => zext s.dbg.dwcr0
  | .dwcr1 => zext s.dbg.dwcr1
  | .dsr => zext s.dbg.dsr
  | .drr => zext s.dbg.drr
  | .pccr i => zext (s.pccr.get i)
  | .pcmr i => zext (s.pcmr.get i ||| 1)
  | .pmr => zext s.pmr
  | .picmr => zext s.picmr
  | .picsr => zext (picStatus s)
  | .ttmr => zext s.ttmr
  | .ttcr => zext s.ttcr

/-- `read_spr` (R555): 0 for an address without an implemented register the mode may read (R31, R32, D7). -/
def readSpr (s : State) (a : BitVec 16) : Word :=
  match sprAt a with
  | some r => if sprPresent s.cfg r && sprReadable s.sm s.sumra r then trunc s.cfg (readReg s r) else 0
  | none => 0

/-- The writable bits of a TLB match register; its CID field is fixed at 0 without shadow files (R105, log 5). -/
def tlbmrMask (c : Config) : Word32 := if c.nsgf = 0 then 0xFFFFE0C3 else 0xFFFFE0FF

/-- The writable bits of an ATB match register (R108). -/
def atbmrMask (c : Config) : Word32 := if c.nsgf = 0 then 0xFFFFFC21 else 0xFFFFFC3F

/-- The side whose register layout a write uses: with a unified MMU the data side's (R111, log 39). -/
def layoutSide (c : Config) (k : AccKind) : AccKind := if c.unifiedMmu then .load else k

/-- The writable bits of a TLB translate register (R106, R107). -/
def tlbtrMask : AccKind → Word32
  | .fetch => 0xFFFFFFFF
  | .load | .store => 0xFFFFE3FF

/-- The writable bits of a protection register (R101, R103). -/
def mmuprMask : AccKind → Word32
  | .fetch => 0x00003FFF
  | .load | .store => 0x0FFFFFFF

/-- A write of xMMUCR: the table base is stored, the flush bit flushes the TLB and reads 0 (R100, R102). -/
def MmuRegs.writeControl (m : MmuRegs) (v : Word32) : MmuRegs :=
  let m := if v.getLsbD 0 then m.flush else m
  { m with cr := v &&& 0xFFFFFC00 }

/-- A write of a register that is implemented and writable (R556): the state after the instruction has advanced, with the
register's own effect. -/
def writeReg (s : State) (r : Spr) (v : Word) : State :=
  let w : Word32 := v.setWidth 32
  match r with
  | .evbar => { s with evbar := w &&& 0xFFFFE000 }
  | .aecr => { s with aecr := w &&& 0x7F }
  | .aesr => { s with aesr := w &&& 0x7F }
  | .npc => { s with pc := trunc s.cfg v, ds := none }
  | .sr => { s with sr := legalSr s.cfg w }
  | .fpcsr => { s with fpcsr := w &&& 0xFFF }
  | .epcr i => { s with epcr := s.epcr.set i (trunc s.cfg v) }
  | .eear i => { s with eear := s.eear.set i (trunc s.cfg v) }
  | .esr i => { s with esr := s.esr.set i (trunc s.cfg v) }
  | .gpr i => { s with gpr := s.gpr.set i (trunc s.cfg v) }
  | .mmucr k => s.setMmu k ((s.mmu k).writeControl w)
  | .mmupr k => s.setMmu k { s.mmu k with pr := w &&& mmuprMask (layoutSide s.cfg k) }
  | .tlbeir k => s.setMmu k ((s.mmu k).invalidate s.cfg (mmuConfig s.cfg k) (trunc s.cfg v))
  | .atbmr k e =>
    s.setMmu k
      { s.mmu k with atbm := (s.mmu k).atbm.set e (w &&& atbmrMask s.cfg), atbVpn := (s.mmu k).atbVpn.set e none }
  | .atbtr k e => s.setMmu k { s.mmu k with atbt := (s.mmu k).atbt.set e w }
  | .tlbmr k i =>
    s.setMmu k
      { s.mmu k with tlbm := (s.mmu k).tlbm.set i (w &&& tlbmrMask s.cfg), tlbVpn := (s.mmu k).tlbVpn.set i none }
  | .tlbtr k i =>
    s.setMmu k
      { s.mmu k with
        tlbt := (s.mmu k).tlbt.set i (w &&& tlbtrMask (layoutSide s.cfg k)), tlbPpn := (s.mmu k).tlbPpn.set i none }
  | .dccr => { s with dccr := w &&& 0xFF }
  | .iccr => if s.cfg.unifiedCache then { s with dccr := w &&& 0xFF } else { s with iccr := w &&& 0xFF }
  | .maclo => { s with maclo := w }
  | .machi => { s with machi := w }
  | .fpmaddlo => { s with fpmaddlo := w }
  | .fpmaddhi => { s with fpmaddhi := w }
  | .vmaclo => { s with vmaclo := v }
  | .vmachi => { s with vmachi := v }
  | .dvr i => { s with dbg := { s.dbg with dvr := s.dbg.dvr.set i w } }
  | .dcr i => { s with dbg := { s.dbg with dcr := s.dbg.dcr.set i (w &&& 0xFE) } }
  | .dmr1 => { s with dbg := { s.dbg with dmr1 := w &&& 0x00FFFFFF } }
  | .dmr2 => { s with dbg := { s.dbg with dmr2 := (w &&& 0x003FFFFF) ||| (s.dbg.dmr2 &&& w &&& 0xFFC00000) } }
  | .dwcr0 => { s with dbg := { s.dbg with dwcr0 := w } }
  | .dwcr1 => { s with dbg := { s.dbg with dwcr1 := w } }
  | .dsr => { s with dbg := { s.dbg with dsr := w &&& 0x3FFF } }
  | .drr => { s with dbg := { s.dbg with drr := w &&& 0x3FFF } }
  | .pccr i => { s with pccr := s.pccr.set i w }
  | .pcmr i => { s with pcmr := s.pcmr.set i (w &&& 0x03FFFFFE) }
  | .pmr => { s with pmr := w &&& 0xFF, status := powerMode w s.status }
  | .picmr => { s with picmr := w ||| (s.cfg.picFixed &&& 3) }
  | .picsr => { s with picLatch := s.picLatch &&& ~~~(w &&& s.cfg.picEdge) }
  | .ttmr => { s with ttmr := (w &&& 0xEFFFFFFF) ||| (s.ttmr &&& w &&& 0x10000000) }
  | .ttcr => { s with ttcr := w }
  | .vr | .upr | .cpucfgr | .dmmucfgr | .immucfgr | .dccfgr | .iccfgr | .dcfgr | .pccfgr | .vr2 | .avr | .ppc | .isr _
  | .coreid | .numcores | .cacheBlock _ => s

/-- `write_spr` (R556): nothing for an address without an implemented register the mode may write (R31, R32, D7). -/
def writeSpr (s : State) (a : BitVec 16) (v : Word) : State :=
  match sprAt a with
  | some r => if sprPresent s.cfg r && sprWritable s.sm r then writeReg s r v else s
  | none => s

/-- The register address `rA OR K`, its low 16 bits (R555, R557). -/
def State.sprAddr (s : State) (a : RegNo) (k : BitVec 16) : BitVec 16 := (s.reg a).setWidth 16 ||| k

end Sys2Proof.Machine
end

