-- ==== Sys2Proof/Machine/Custom.lean ====
section
/-! DEFINITION. The custom instruction space: illegal unless the implementation supplies a function, and then what the
function says (R323, R580, R635, R665, R765, log 19). -/

namespace Sys2Proof.Machine

/-- What a custom instruction changes, as the implementation's function says it (R580, log 19). -/
structure CustomEffect where
  /-- Writes of general registers of the current context, in order. -/
  regs : List (RegNo × Word)
  /-- SR[CY] after it. -/
  cy : Bool
  /-- SR[OV] after it. -/
  ov : Bool
  /-- SR[F] after it. -/
  flag : Bool
  /-- Bytes of physical memory written, in order; inside the OMPIC window they are the memory beneath the device
  (DESIGN CHOICE, logs 17 and 19). -/
  bytes : List Host.Cell
  /-- Writes of special-purpose registers, in order, each as l.mtspr would make it in the current mode. -/
  sprs : List (BitVec 16 × Word)
deriving DecidableEq, Repr, Inhabited

/-- `CUSTOM_INSN` (R9, R580): what an implementation's custom instruction does, as a function of the instruction and of all
the state; its word, whose other bits belong to the implementation, stands in memory at the pc. The spec leaves the function
to the implementation, and it has no body here (DESIGN CHOICE, log 19). -/
opaque customFunction : Instr → State → CustomEffect

/-- Write a general register if the implementation has it; a write of one it lacks is dropped (R20, R23; DESIGN CHOICE,
log 19). -/
def customReg (s : State) (p : RegNo × Word) : State := if p.1.toNat < s.cfg.ngpr then s.setReg p.1 p.2 else s

/-- The state after the registers, flags and memory of a custom instruction are written and it is completed (R580).

Its bytes are written by physical address, without the checks and the debug record of R215, and a reserved word that is
written is no longer reserved, as by a store of R231 (DESIGN CHOICE, log 19). R910 states no effect of a byte access inside
the OMPIC window, and 93_implementation_defined.md refuses one of the core: a byte that the function writes there changes the
memory beneath the device, the device does not take part, and nothing is refused (DESIGN CHOICE, logs 17 and 19). -/
def customWrites (e : CustomEffect) (s : State) : State :=
  let s := e.regs.foldl customReg s
  let s := ((s.setCy e.cy).setOv e.ov).setF e.flag
  (advance (e.bytes.foldl foreignWrite s)).drawn

/-- The meaning of the supplied custom instructions: the function's effect, the special-purpose registers last as for
l.mtspr (R556, R580, log 19). -/
def runCustom (i : Instr) (s : State) : Out State :=
  let e := customFunction i s
  .next (e.sprs.foldl (fun t p => writeSpr t p.1 p.2) (customWrites e s))

/-- `lf.cust1.s` (R635). -/
def execLfCust1S (a : BitVec 5) (b : BitVec 5) (s : State) : Out State := gate (.lfCust1S a b) s (runCustom (.lfCust1S a b) s)

/-- `lf.cust1.d` (R665). -/
def execLfCust1D (a : BitVec 5) (b : BitVec 5) (s : State) : Out State := gate (.lfCust1D a b) s (runCustom (.lfCust1D a b) s)

/-- `l.cust1` (R580). -/
def execLCust1 (s : State) : Out State := gate .lCust1 s (runCustom .lCust1 s)

/-- `l.cust2` (R580). -/
def execLCust2 (s : State) : Out State := gate .lCust2 s (runCustom .lCust2 s)

/-- `l.cust3` (R580). -/
def execLCust3 (s : State) : Out State := gate .lCust3 s (runCustom .lCust3 s)

/-- `l.cust4` (R580). -/
def execLCust4 (s : State) : Out State := gate .lCust4 s (runCustom .lCust4 s)

/-- `l.cust5` (R580). -/
def execLCust5 (d : BitVec 5) (a : BitVec 5) (b : BitVec 5) (l : BitVec 6) (k : BitVec 5) (s : State) : Out State := gate (.lCust5 d a b l k) s (runCustom (.lCust5 d a b l k) s)

/-- `l.cust6` (R580). -/
def execLCust6 (s : State) : Out State := gate .lCust6 s (runCustom .lCust6 s)

/-- `l.cust7` (R580). -/
def execLCust7 (s : State) : Out State := gate .lCust7 s (runCustom .lCust7 s)

/-- `l.cust8` (R580). -/
def execLCust8 (s : State) : Out State := gate .lCust8 s (runCustom .lCust8 s)

/-- `lv.cust1` (R765). -/
def execLvCust1 (s : State) : Out State := gate .lvCust1 s (runCustom .lvCust1 s)

/-- `lv.cust2` (R765). -/
def execLvCust2 (s : State) : Out State := gate .lvCust2 s (runCustom .lvCust2 s)

/-- `lv.cust3` (R765). -/
def execLvCust3 (s : State) : Out State := gate .lvCust3 s (runCustom .lvCust3 s)

/-- `lv.cust4` (R765). -/
def execLvCust4 (s : State) : Out State := gate .lvCust4 s (runCustom .lvCust4 s)

end Sys2Proof.Machine
end

