-- ==== Sys2Proof/Machine/Float.lean ====
section
/-! DEFINITION. IEEE-754 arithmetic on bit patterns: operands become exact numbers, the exact result is rounded once
(R601, R602, R604, R606, log 30). -/

namespace Sys2Proof.Machine

/-- A binary floating-point format: exponent and fraction widths (R601). -/
structure FpFormat where
  /-- Exponent bits. -/
  eb : Nat
  /-- Fraction bits. -/
  fb : Nat
deriving DecidableEq, Repr

/-- Single precision: 8 exponent bits, 23 fraction bits (R601). -/
def fpSingle : FpFormat := { eb := 8, fb := 23 }
/-- Double precision: 11 exponent bits, 52 fraction bits (R601). -/
def fpDouble : FpFormat := { eb := 11, fb := 52 }

/-- What a bit pattern stands for. A finite number is `±mant * 2 ^ exp`; both zeros are finite. -/
inductive FpVal where
  /-- A NaN, signalling or quiet. -/
  | nan (signalling : Bool)
  /-- An infinity. -/
  | inf (neg : Bool)
  /-- A finite number. -/
  | fin (neg : Bool) (mant : Nat) (exp : Int)
deriving DecidableEq, Repr

/-- A result: its bit pattern and the FPCSR flags it raises (R602). -/
structure FpRes where
  /-- The bit pattern. -/
  bits : Nat
  /-- The flags, at their FPCSR positions. -/
  flags : Word32
deriving DecidableEq, Repr

/-- FPCSR[OVF] (R45). -/
def flagOvf : Word32 := 0x008
/-- FPCSR[UNF] (R45). -/
def flagUnf : Word32 := 0x010
/-- FPCSR[QNF] (R45). -/
def flagQnf : Word32 := 0x040
/-- FPCSR[ZF] (R45). -/
def flagZf : Word32 := 0x080
/-- FPCSR[IXF] (R45). -/
def flagIxf : Word32 := 0x100
/-- FPCSR[IVF] (R45). -/
def flagIvf : Word32 := 0x200
/-- FPCSR[INF] (R45). -/
def flagInf : Word32 := 0x400
/-- FPCSR[DZF] (R45). -/
def flagDzf : Word32 := 0x800

/-- A flag when its condition holds. -/
def flagIf (b : Bool) (f : Word32) : Word32 := if b then f else 0

/-- The exponent bias. -/
def fpBias (f : FpFormat) : Nat := 2 ^ (f.eb - 1) - 1

/-- What a bit pattern stands for; a NaN is signalling when its top fraction bit is 0 (R601, R606). -/
def fpUnpack (f : FpFormat) (v : Nat) : FpVal :=
  let neg := decide (v / 2 ^ (f.eb + f.fb) % 2 = 1)
  let e := v / 2 ^ f.fb % 2 ^ f.eb
  let m := v % 2 ^ f.fb
  if e = 2 ^ f.eb - 1 then
    if m = 0 then .inf neg else .nan (decide (m < 2 ^ (f.fb - 1)))
  else if e = 0 then .fin neg m (1 - (fpBias f : Int) - (f.fb : Int))
  else .fin neg (2 ^ f.fb + m) ((e : Int) - (fpBias f : Int) - (f.fb : Int))

/-- The sign bit in place. -/
def fpSign (f : FpFormat) (neg : Bool) : Nat := if neg then 2 ^ (f.eb + f.fb) else 0

/-- The magnitude of an infinity: exponent all ones, fraction zero. -/
def fpInfBits (f : FpFormat) : Nat := (2 ^ f.eb - 1) * 2 ^ f.fb

/-- An infinity. -/
def fpInf (f : FpFormat) (neg : Bool) (flags : Word32) : FpRes :=
  { bits := fpSign f neg + fpInfBits f, flags := flags ||| flagInf }

/-- A zero. -/
def fpZero (f : FpFormat) (neg : Bool) (flags : Word32) : FpRes :=
  { bits := fpSign f neg, flags := flags ||| flagZf }

/-- The canonical quiet NaN (R604, D41). -/
def fpNan (f : FpFormat) (invalid : Bool) : FpRes :=
  { bits := fpInfBits f + 2 ^ (f.fb - 1), flags := flagQnf ||| flagIf invalid flagIvf }

/-- Rounding goes away from zero: the part cut off is `rem` out of `2 ^ shift`, `odd` the last bit kept (R601). -/
def roundsUp (rm : BitVec 2) (neg odd : Bool) (rem shift : Nat) : Bool :=
  match rm.toNat with
  | 0 => decide (2 ^ (shift - 1) < rem) || (decide (rem = 2 ^ (shift - 1)) && odd)
  | 1 => false
  | 2 => !neg && decide (rem ≠ 0)
  | _ => neg && decide (rem ≠ 0)

/-- An overflow gives an infinity or the largest finite number, by rounding mode and sign. -/
def overflowsToInf (rm : BitVec 2) (neg : Bool) : Bool :=
  match rm.toNat with
  | 0 => true
  | 1 => false
  | 2 => !neg
  | _ => neg

/-- Round the exact number `±mant * 2 ^ exp`, not zero, once (R601); tininess is detected before rounding (R601, R602). -/
def fpRound (f : FpFormat) (rm : BitVec 2) (neg : Bool) (mant : Nat) (exp : Int) : FpRes :=
  let emin : Int := 1 - (fpBias f : Int)
  let lead : Int := exp + (Nat.log2 mant : Int)
  let lsb : Int := max (lead - (f.fb : Int)) (emin - (f.fb : Int))
  let shift : Nat := (lsb - exp).toNat
  let rem := mant % 2 ^ shift
  let kept := if lsb ≤ exp then mant * 2 ^ (exp - lsb).toNat else mant / 2 ^ shift
  let inexact := decide (exp < lsb) && decide (rem ≠ 0)
  let up := inexact && roundsUp rm neg (decide (kept % 2 = 1)) rem shift
  let mag := (lsb + (f.fb : Int) + (fpBias f : Int) - 1).toNat * 2 ^ f.fb + kept + up.toNat
  if fpInfBits f ≤ mag then
    if overflowsToInf rm neg then fpInf f neg (flagOvf ||| flagIxf)
    else { bits := fpSign f neg + (fpInfBits f - 1), flags := flagOvf ||| flagIxf }
  else
    { bits := fpSign f neg + mag
      flags := flagIf inexact flagIxf ||| flagIf (inexact && decide (lead < emin)) flagUnf
        ||| flagIf (decide (mag = 0)) flagZf }

/-- Round an exact number that may be zero; `zneg` is the sign of a zero. -/
def fpRoundInt (f : FpFormat) (rm : BitVec 2) (z : Int) (exp : Int) (zneg : Bool) : FpRes :=
  if z = 0 then fpZero f zneg 0 else fpRound f rm (decide (z < 0)) z.natAbs exp

/-- The mantissa with its sign. -/
def fpSigned (neg : Bool) (mant : Nat) : Int := if neg then -(mant : Int) else (mant : Int)

/-- A finite number as an integer multiple of `2 ^ e`, for `e` at most its own exponent. -/
def fpScaled (neg : Bool) (mant : Nat) (exp e : Int) : Int := fpSigned neg mant * 2 ^ (exp - e).toNat

/-- The sign of an exact zero sum: the common sign of the terms, else minus only when rounding down (IEEE-754, R601). -/
def zeroSumNeg (rm : BitVec 2) (n1 n2 : Bool) : Bool := if n1 = n2 then n1 else decide (rm = 3)

/-- The exact sum of two finite numbers, rounded. -/
def fpSumFin (f : FpFormat) (rm : BitVec 2) (n1 : Bool) (m1 : Nat) (e1 : Int) (n2 : Bool) (m2 : Nat) (e2 : Int) : FpRes :=
  let e := min e1 e2
  fpRoundInt f rm (fpScaled n1 m1 e1 e + fpScaled n2 m2 e2 e) e (zeroSumNeg rm n1 n2)

/-- The sum of two operands (R610, R640). -/
def fpSum (f : FpFormat) (rm : BitVec 2) (x y : FpVal) : FpRes :=
  match x, y with
  | .nan s1, .nan s2 => fpNan f (s1 || s2)
  | .nan s1, _ => fpNan f s1
  | _, .nan s2 => fpNan f s2
  | .inf n1, .inf n2 => if n1 = n2 then fpInf f n1 0 else fpNan f true
  | .inf n1, .fin .. => fpInf f n1 0
  | .fin .., .inf n2 => fpInf f n2 0
  | .fin n1 m1 e1, .fin n2 m2 e2 => fpSumFin f rm n1 m1 e1 n2 m2 e2

/-- The operand with its sign reversed. -/
def fpNegate : FpVal → FpVal
  | .nan s => .nan s
  | .inf n => .inf (!n)
  | .fin n m e => .fin (!n) m e

/-- The product of two operands (R612, R642). -/
def fpProduct (f : FpFormat) (rm : BitVec 2) (x y : FpVal) : FpRes :=
  match x, y with
  | .nan s1, .nan s2 => fpNan f (s1 || s2)
  | .nan s1, _ => fpNan f s1
  | _, .nan s2 => fpNan f s2
  | .inf n1, .inf n2 => fpInf f (n1 != n2) 0
  | .inf n1, .fin n2 m2 _ => if m2 = 0 then fpNan f true else fpInf f (n1 != n2) 0
  | .fin n1 m1 _, .inf n2 => if m1 = 0 then fpNan f true else fpInf f (n1 != n2) 0
  | .fin n1 m1 e1, .fin n2 m2 e2 =>
    if m1 * m2 = 0 then fpZero f (n1 != n2) 0 else fpRound f rm (n1 != n2) (m1 * m2) (e1 + e2)

/-- The quotient of two finite numbers, the divisor not zero: enough quotient bits, and one that says whether more
follow, so that one rounding is exact. -/
def fpQuotFin (f : FpFormat) (rm : BitVec 2) (neg : Bool) (m1 : Nat) (e1 : Int) (m2 : Nat) (e2 : Int) : FpRes :=
  let k := 2 * f.fb + 6
  let n := m1 * 2 ^ k
  let sticky := if n % m2 = 0 then 0 else 1
  fpRound f rm neg (2 * (n / m2) + sticky) (e1 - e2 - (k : Int) - 1)

/-- The quotient of two operands (R613, R643). -/
def fpQuotient (f : FpFormat) (rm : BitVec 2) (x y : FpVal) : FpRes :=
  match x, y with
  | .nan s1, .nan s2 => fpNan f (s1 || s2)
  | .nan s1, _ => fpNan f s1
  | _, .nan s2 => fpNan f s2
  | .inf _, .inf _ => fpNan f true
  | .inf n1, .fin n2 _ _ => fpInf f (n1 != n2) 0
  | .fin n1 _ _, .inf n2 => fpZero f (n1 != n2) 0
  | .fin n1 m1 e1, .fin n2 m2 e2 =>
    if m2 = 0 then (if m1 = 0 then fpNan f true else fpInf f (n1 != n2) flagDzf)
    else if m1 = 0 then fpZero f (n1 != n2) 0
    else fpQuotFin f rm (n1 != n2) m1 e1 m2 e2

/-- An operand is a signalling NaN. -/
def fpIsSnan : FpVal → Bool
  | .nan s => s
  | .inf _ | .fin .. => false

/-- An operand is a NaN. -/
def fpIsNan : FpVal → Bool
  | .nan _ => true
  | .inf _ | .fin .. => false

/-- An operand is an infinity. -/
def fpIsInf : FpVal → Bool
  | .inf _ => true
  | .nan _ | .fin .. => false

/-- An operand is a zero. -/
def fpIsZero : FpVal → Bool
  | .fin _ m _ => decide (m = 0)
  | .nan _ | .inf _ => false

/-- The exact product of two operands that are no NaN and not zero times infinity. -/
def fpExactProduct : FpVal → FpVal → FpVal
  | .fin n1 m1 e1, .fin n2 m2 e2 => .fin (n1 != n2) (m1 * m2) (e1 + e2)
  | .inf n1, .inf n2 | .inf n1, .fin n2 _ _ | .fin n1 _ _, .inf n2 => .inf (n1 != n2)
  | x, _ => x

/-- The fused `x * y + z`, rounded once; zero times infinity is invalid whatever `z` is (R602, R618, R648). -/
def fpFused (f : FpFormat) (rm : BitVec 2) (x y z : FpVal) : FpRes :=
  if (fpIsZero x && fpIsInf y) || (fpIsInf x && fpIsZero y) then fpNan f true
  else if fpIsNan x || fpIsNan y || fpIsNan z then fpNan f (fpIsSnan x || fpIsSnan y || fpIsSnan z)
  else fpSum f rm (fpExactProduct x y) z

/-- An integer as a floating-point number (R614, R644). -/
def fpOfInt (f : FpFormat) (rm : BitVec 2) (z : Int) : FpRes := fpRoundInt f rm z 0 false

/-- A number of any format in format `f` (R647). -/
def fpConvert (f : FpFormat) (rm : BitVec 2) : FpVal → FpRes
  | .nan s => fpNan f s
  | .inf n => fpInf f n 0
  | .fin n m e => if m = 0 then fpZero f n 0 else fpRound f rm n m e

/-- The magnitude of a finite number truncated towards zero. -/
def fpTrunc (m : Nat) (e : Int) : Nat := if 0 ≤ e then m * 2 ^ e.toNat else m / 2 ^ (-e).toNat

/-- A finite number is no integer. -/
def fpFractional (m : Nat) (e : Int) : Bool := decide (e < 0) && decide (m % 2 ^ (-e).toNat ≠ 0)

/-- An operand truncated to a signed integer of `n` bits, with the flags; none for a NaN, an infinity or a value outside
the range (R615, R645). -/
def fpToInt (n : Nat) : FpVal → Option (Int × Word32)
  | .nan _ | .inf _ => none
  | .fin neg m e =>
    let z := fpSigned neg (fpTrunc m e)
    if -(2 : Int) ^ (n - 1) ≤ z ∧ z < (2 : Int) ^ (n - 1) then some (z, flagIf (fpFractional m e) flagIxf) else none

/-- `x = y`: false for a NaN, the zeros equal (R606). -/
def fpEq : FpVal → FpVal → Bool
  | .fin n1 m1 e1, .fin n2 m2 e2 =>
    decide (fpScaled n1 m1 e1 (min e1 e2) = fpScaled n2 m2 e2 (min e1 e2))
  | .inf n1, .inf n2 => n1 == n2
  | _, _ => false

/-- `x < y`: false for a NaN (R606). -/
def fpLt : FpVal → FpVal → Bool
  | .fin n1 m1 e1, .fin n2 m2 e2 =>
    decide (fpScaled n1 m1 e1 (min e1 e2) < fpScaled n2 m2 e2 (min e1 e2))
  | .inf n1, .inf n2 => n1 && !n2
  | .inf n1, .fin .. => n1
  | .fin .., .inf n2 => !n2
  | _, _ => false

/-- `x ≤ y`: false for a NaN (R606). -/
def fpLe (x y : FpVal) : Bool := fpLt x y || fpEq x y

/-- One of the operands is a NaN (R626). -/
def fpUnordered (x y : FpVal) : Bool := fpIsNan x || fpIsNan y

/-- The flags of every compare: INF for an infinite operand (R606). -/
def cmpFlags (x y : FpVal) : Word32 := flagIf (fpIsInf x || fpIsInf y) flagInf

/-- The flags of equal and not equal: IVF for a signalling NaN too (R606). -/
def cmpFlagsQuiet (x y : FpVal) : Word32 := cmpFlags x y ||| flagIf (fpIsSnan x || fpIsSnan y) flagIvf

/-- The flags of the ordered relations: IVF for any NaN too (R606). -/
def cmpFlagsOrdered (x y : FpVal) : Word32 := cmpFlags x y ||| flagIf (fpUnordered x y) flagIvf

/-- FPCSR[RM] (R45). -/
def State.rm (s : State) : BitVec 2 := s.fpcsr.extractLsb' 1 2

/-- FPCSR[FPEE] (R45). -/
def State.fpee (s : State) : Bool := s.fpcsr.getLsbD 0

/-- FPCSR gains the raised flags; the status flags are sticky (R46, R602). -/
def State.raise (s : State) (flags : Word32) : State := { s with fpcsr := s.fpcsr ||| flags }

/-- A floating-point instruction ends, its result written: flags, then the exception if enabled and any was raised, EPCR
the next instruction (R602, R885, D40). -/
def finishFp (flags : Word32) (s : State) : Out State :=
  if s.fpee && decide (flags ≠ 0) then .next (enter .floatingPoint (s.pc + 4) none (executed (s.raise flags)))
  else .next (advance (s.raise flags))

/-- A single-precision operand as a number. -/
def State.fpS (s : State) (r : RegNo) : FpVal := fpUnpack fpSingle (s.single r).toNat

/-- A double-precision operand as a number. -/
def State.fpD (s : State) (r : RegNo) (off : BitVec 1) : FpVal := fpUnpack fpDouble (s.double r off).toNat

/-- A single-precision result goes to rD (R604). -/
def resultS (d : RegNo) (r : FpRes) (s : State) : Out State :=
  finishFp r.flags (s.setSingle d (BitVec.ofNat 32 r.bits))

/-- A double-precision result goes to rD or its pair (R603). -/
def resultD (d : RegNo) (d2 : BitVec 1) (r : FpRes) (s : State) : Out State :=
  finishFp r.flags (s.setDouble d d2 (BitVec.ofNat 64 r.bits))

/-- A floating-point compare ends: SR[F], then the flags (R606). -/
def resultCmp (b : Bool) (flags : Word32) (s : State) : Out State := finishFp flags (s.setF b)

end Sys2Proof.Machine
end

