-- ==== Sys2Proof/Machine/FloatD.lean ====
section
/-! DEFINITION. ORFPX64 and ORFPX64A32: the double-precision instructions, on registers or on register pairs
(`spec/45_orfpx.md`, R603). -/

namespace Sys2Proof.Machine

/-- `lf.add.d` (R640). -/
def execLfAddD (d a b : RegNo) (d2 a2 b2 : BitVec 1) (s : State) : Out State :=
  gate (.lfAddD d a b d2 a2 b2) s (resultD d d2 (fpSum fpDouble s.rm (s.fpD a a2) (s.fpD b b2)) s)

/-- `lf.sub.d` (R641). -/
def execLfSubD (d a b : RegNo) (d2 a2 b2 : BitVec 1) (s : State) : Out State :=
  gate (.lfSubD d a b d2 a2 b2) s (resultD d d2 (fpSum fpDouble s.rm (s.fpD a a2) (fpNegate (s.fpD b b2))) s)

/-- `lf.mul.d` (R642). -/
def execLfMulD (d a b : RegNo) (d2 a2 b2 : BitVec 1) (s : State) : Out State :=
  gate (.lfMulD d a b d2 a2 b2) s (resultD d d2 (fpProduct fpDouble s.rm (s.fpD a a2) (s.fpD b b2)) s)

/-- `lf.div.d` (R643). -/
def execLfDivD (d a b : RegNo) (d2 a2 b2 : BitVec 1) (s : State) : Out State :=
  gate (.lfDivD d a b d2 a2 b2) s (resultD d d2 (fpQuotient fpDouble s.rm (s.fpD a a2) (s.fpD b b2)) s)

/-- `lf.itof.d`: a signed 64-bit integer (R644). -/
def execLfItofD (d a : RegNo) (d2 a2 : BitVec 1) (s : State) : Out State :=
  gate (.lfItofD d a d2 a2) s (resultD d d2 (fpOfInt fpDouble s.rm (s.double a a2).toInt) s)

/-- `lf.ftoi.d`: truncated to a signed 64-bit integer; an operand without one leaves a free value and raises IVF (R645,
log 12). -/
def execLfFtoiD (d a : RegNo) (d2 a2 : BitVec 1) (s : State) : Out State :=
  gate (.lfFtoiD d a d2 a2) s
    (match fpToInt 64 (s.fpD a a2) with
    | some (z, flags) => finishFp flags (s.setDouble d d2 (BitVec.ofInt 64 z))
    | none => finishFp flagIvf (s.drawn.setDouble d d2 s.freeWord))

/-- `lf.stod.d`: exact, no flag, no exception (R646). -/
def execLfStodD (d a : RegNo) (d2 : BitVec 1) (s : State) : Out State :=
  gate (.lfStodD d a d2) s
    (.next (advance (s.setDouble d d2 (BitVec.ofNat 64 (fpConvert fpDouble s.rm (s.fpS a)).bits))))

/-- `lf.dtos.d`: one register, boxed on XLEN = 64 (R647). -/
def execLfDtosD (d a : RegNo) (a2 : BitVec 1) (s : State) : Out State :=
  gate (.lfDtosD d a a2) s (resultS d (fpConvert fpSingle s.rm (s.fpD a a2)) s)

/-- The fused result of `lf.madd.d` on the accumulator `{FPMADDHI, FPMADDLO}` (R648). -/
def maddD (a b : RegNo) (a2 b2 : BitVec 1) (s : State) : FpRes :=
  fpFused fpDouble s.rm (s.fpD a a2) (s.fpD b b2) (fpUnpack fpDouble (s.fpmaddhi ++ s.fpmaddlo).toNat)

/-- The accumulator `{FPMADDHI, FPMADDLO}` gets a double (R648). -/
def State.setFpmadd (s : State) (v : BitVec 64) : State :=
  { s with fpmaddhi := v.extractLsb' 32 32, fpmaddlo := v.extractLsb' 0 32 }

/-- `lf.madd.d` (R648). -/
def execLfMaddD (a b : RegNo) (a2 b2 : BitVec 1) (s : State) : Out State :=
  gate (.lfMaddD a b a2 b2) s
    (finishFp (maddD a b a2 b2 s).flags (s.setFpmadd (BitVec.ofNat 64 (maddD a b a2 b2 s).bits)))

/-- `lf.sfeq.d` (R650). -/
def execLfSfeqD (a b : RegNo) (a2 b2 : BitVec 1) (s : State) : Out State :=
  gate (.lfSfeqD a b a2 b2) s
    (resultCmp (fpEq (s.fpD a a2) (s.fpD b b2)) (cmpFlagsQuiet (s.fpD a a2) (s.fpD b b2)) s)

/-- `lf.sfne.d` (R651). -/
def execLfSfneD (a b : RegNo) (a2 b2 : BitVec 1) (s : State) : Out State :=
  gate (.lfSfneD a b a2 b2) s
    (resultCmp (!fpEq (s.fpD a a2) (s.fpD b b2)) (cmpFlagsQuiet (s.fpD a a2) (s.fpD b b2)) s)

/-- `lf.sfgt.d` (R652). -/
def execLfSfgtD (a b : RegNo) (a2 b2 : BitVec 1) (s : State) : Out State :=
  gate (.lfSfgtD a b a2 b2) s
    (resultCmp (fpLt (s.fpD b b2) (s.fpD a a2)) (cmpFlagsOrdered (s.fpD a a2) (s.fpD b b2)) s)

/-- `lf.sfge.d` (R653). -/
def execLfSfgeD (a b : RegNo) (a2 b2 : BitVec 1) (s : State) : Out State :=
  gate (.lfSfgeD a b a2 b2) s
    (resultCmp (fpLe (s.fpD b b2) (s.fpD a a2)) (cmpFlagsOrdered (s.fpD a a2) (s.fpD b b2)) s)

/-- `lf.sflt.d` (R654). -/
def execLfSfltD (a b : RegNo) (a2 b2 : BitVec 1) (s : State) : Out State :=
  gate (.lfSfltD a b a2 b2) s
    (resultCmp (fpLt (s.fpD a a2) (s.fpD b b2)) (cmpFlagsOrdered (s.fpD a a2) (s.fpD b b2)) s)

/-- `lf.sfle.d` (R655). -/
def execLfSfleD (a b : RegNo) (a2 b2 : BitVec 1) (s : State) : Out State :=
  gate (.lfSfleD a b a2 b2) s
    (resultCmp (fpLe (s.fpD a a2) (s.fpD b b2)) (cmpFlagsOrdered (s.fpD a a2) (s.fpD b b2)) s)

/-- `lf.sfueq.d` (R656). -/
def execLfSfueqD (a b : RegNo) (a2 b2 : BitVec 1) (s : State) : Out State :=
  gate (.lfSfueqD a b a2 b2) s
    (resultCmp (fpUnordered (s.fpD a a2) (s.fpD b b2) || fpEq (s.fpD a a2) (s.fpD b b2)) (cmpFlags (s.fpD a a2) (s.fpD b b2)) s)

/-- `lf.sfune.d` (R657). -/
def execLfSfuneD (a b : RegNo) (a2 b2 : BitVec 1) (s : State) : Out State :=
  gate (.lfSfuneD a b a2 b2) s
    (resultCmp (fpUnordered (s.fpD a a2) (s.fpD b b2) || !fpEq (s.fpD a a2) (s.fpD b b2)) (cmpFlags (s.fpD a a2) (s.fpD b b2)) s)

/-- `lf.sfugt.d` (R658). -/
def execLfSfugtD (a b : RegNo) (a2 b2 : BitVec 1) (s : State) : Out State :=
  gate (.lfSfugtD a b a2 b2) s
    (resultCmp (fpUnordered (s.fpD a a2) (s.fpD b b2) || fpLt (s.fpD b b2) (s.fpD a a2)) (cmpFlags (s.fpD a a2) (s.fpD b b2)) s)

/-- `lf.sfuge.d` (R659). -/
def execLfSfugeD (a b : RegNo) (a2 b2 : BitVec 1) (s : State) : Out State :=
  gate (.lfSfugeD a b a2 b2) s
    (resultCmp (fpUnordered (s.fpD a a2) (s.fpD b b2) || fpLe (s.fpD b b2) (s.fpD a a2)) (cmpFlags (s.fpD a a2) (s.fpD b b2)) s)

/-- `lf.sfult.d` (R660). -/
def execLfSfultD (a b : RegNo) (a2 b2 : BitVec 1) (s : State) : Out State :=
  gate (.lfSfultD a b a2 b2) s
    (resultCmp (fpUnordered (s.fpD a a2) (s.fpD b b2) || fpLt (s.fpD a a2) (s.fpD b b2)) (cmpFlags (s.fpD a a2) (s.fpD b b2)) s)

/-- `lf.sfule.d` (R661). -/
def execLfSfuleD (a b : RegNo) (a2 b2 : BitVec 1) (s : State) : Out State :=
  gate (.lfSfuleD a b a2 b2) s
    (resultCmp (fpUnordered (s.fpD a a2) (s.fpD b b2) || fpLe (s.fpD a a2) (s.fpD b b2)) (cmpFlags (s.fpD a a2) (s.fpD b b2)) s)

/-- `lf.sfun.d` (R662). -/
def execLfSfunD (a b : RegNo) (a2 b2 : BitVec 1) (s : State) : Out State :=
  gate (.lfSfunD a b a2 b2) s
    (resultCmp (fpUnordered (s.fpD a a2) (s.fpD b b2)) (cmpFlags (s.fpD a a2) (s.fpD b b2)) s)

end Sys2Proof.Machine
end

