-- ==== Sys2Proof/Machine/FloatS.lean ====
section
/-! DEFINITION. ORFPX32: the single-precision instructions (`spec/45_orfpx.md`). -/

namespace Sys2Proof.Machine

/-- `lf.add.s` (R610). -/
def execLfAddS (d a b : RegNo) (s : State) : Out State :=
  gate (.lfAddS d a b) s (resultS d (fpSum fpSingle s.rm (s.fpS a) (s.fpS b)) s)

/-- `lf.sub.s` (R611). -/
def execLfSubS (d a b : RegNo) (s : State) : Out State :=
  gate (.lfSubS d a b) s (resultS d (fpSum fpSingle s.rm (s.fpS a) (fpNegate (s.fpS b))) s)

/-- `lf.mul.s` (R612). -/
def execLfMulS (d a b : RegNo) (s : State) : Out State :=
  gate (.lfMulS d a b) s (resultS d (fpProduct fpSingle s.rm (s.fpS a) (s.fpS b)) s)

/-- `lf.div.s` (R613). -/
def execLfDivS (d a b : RegNo) (s : State) : Out State :=
  gate (.lfDivS d a b) s (resultS d (fpQuotient fpSingle s.rm (s.fpS a) (s.fpS b)) s)

/-- `lf.itof.s`: a signed 32-bit integer (R614). -/
def execLfItofS (d a : RegNo) (s : State) : Out State :=
  gate (.lfItofS d a) s (resultS d (fpOfInt fpSingle s.rm (s.single a).toInt) s)

/-- `lf.ftoi.s`: truncated to a signed 32-bit integer, sign-extended; an operand without one leaves a free value and
raises IVF (R604, R615, log 12). -/
def execLfFtoiS (d a : RegNo) (s : State) : Out State :=
  gate (.lfFtoiS d a) s
    (match fpToInt 32 (s.fpS a) with
    | some (z, flags) => finishFp flags (s.setReg d ((BitVec.ofInt 32 z).signExtend 64))
    | none => finishFp flagIvf (s.drawn.setReg d ((s.freeWord.setWidth 32).signExtend 64)))

/-- The fused result of `lf.madd.s` on the accumulator in FPMADDLO (R618, D49). -/
def maddS (a b : RegNo) (s : State) : FpRes :=
  fpFused fpSingle s.rm (s.fpS a) (s.fpS b) (fpUnpack fpSingle s.fpmaddlo.toNat)

/-- `lf.madd.s`: FPMADDHI and the general registers are unchanged (R618, D49). -/
def execLfMaddS (a b : RegNo) (s : State) : Out State :=
  gate (.lfMaddS a b) s
    (finishFp (maddS a b s).flags { s with fpmaddlo := BitVec.ofNat 32 (maddS a b s).bits })

/-- `lf.sfeq.s` (R620). -/
def execLfSfeqS (a b : RegNo) (s : State) : Out State :=
  gate (.lfSfeqS a b) s
    (resultCmp (fpEq (s.fpS a) (s.fpS b)) (cmpFlagsQuiet (s.fpS a) (s.fpS b)) s)

/-- `lf.sfne.s` (R621). -/
def execLfSfneS (a b : RegNo) (s : State) : Out State :=
  gate (.lfSfneS a b) s
    (resultCmp (!fpEq (s.fpS a) (s.fpS b)) (cmpFlagsQuiet (s.fpS a) (s.fpS b)) s)

/-- `lf.sfgt.s` (R622). -/
def execLfSfgtS (a b : RegNo) (s : State) : Out State :=
  gate (.lfSfgtS a b) s
    (resultCmp (fpLt (s.fpS b) (s.fpS a)) (cmpFlagsOrdered (s.fpS a) (s.fpS b)) s)

/-- `lf.sfge.s` (R623). -/
def execLfSfgeS (a b : RegNo) (s : State) : Out State :=
  gate (.lfSfgeS a b) s
    (resultCmp (fpLe (s.fpS b) (s.fpS a)) (cmpFlagsOrdered (s.fpS a) (s.fpS b)) s)

/-- `lf.sflt.s` (R624). -/
def execLfSfltS (a b : RegNo) (s : State) : Out State :=
  gate (.lfSfltS a b) s
    (resultCmp (fpLt (s.fpS a) (s.fpS b)) (cmpFlagsOrdered (s.fpS a) (s.fpS b)) s)

/-- `lf.sfle.s` (R625). -/
def execLfSfleS (a b : RegNo) (s : State) : Out State :=
  gate (.lfSfleS a b) s
    (resultCmp (fpLe (s.fpS a) (s.fpS b)) (cmpFlagsOrdered (s.fpS a) (s.fpS b)) s)

/-- `lf.sfueq.s` (R626). -/
def execLfSfueqS (a b : RegNo) (s : State) : Out State :=
  gate (.lfSfueqS a b) s
    (resultCmp (fpUnordered (s.fpS a) (s.fpS b) || fpEq (s.fpS a) (s.fpS b)) (cmpFlags (s.fpS a) (s.fpS b)) s)

/-- `lf.sfune.s` (R627). -/
def execLfSfuneS (a b : RegNo) (s : State) : Out State :=
  gate (.lfSfuneS a b) s
    (resultCmp (fpUnordered (s.fpS a) (s.fpS b) || !fpEq (s.fpS a) (s.fpS b)) (cmpFlags (s.fpS a) (s.fpS b)) s)

/-- `lf.sfugt.s` (R628). -/
def execLfSfugtS (a b : RegNo) (s : State) : Out State :=
  gate (.lfSfugtS a b) s
    (resultCmp (fpUnordered (s.fpS a) (s.fpS b) || fpLt (s.fpS b) (s.fpS a)) (cmpFlags (s.fpS a) (s.fpS b)) s)

/-- `lf.sfuge.s` (R629). -/
def execLfSfugeS (a b : RegNo) (s : State) : Out State :=
  gate (.lfSfugeS a b) s
    (resultCmp (fpUnordered (s.fpS a) (s.fpS b) || fpLe (s.fpS b) (s.fpS a)) (cmpFlags (s.fpS a) (s.fpS b)) s)

/-- `lf.sfult.s` (R630). -/
def execLfSfultS (a b : RegNo) (s : State) : Out State :=
  gate (.lfSfultS a b) s
    (resultCmp (fpUnordered (s.fpS a) (s.fpS b) || fpLt (s.fpS a) (s.fpS b)) (cmpFlags (s.fpS a) (s.fpS b)) s)

/-- `lf.sfule.s` (R631). -/
def execLfSfuleS (a b : RegNo) (s : State) : Out State :=
  gate (.lfSfuleS a b) s
    (resultCmp (fpUnordered (s.fpS a) (s.fpS b) || fpLe (s.fpS a) (s.fpS b)) (cmpFlags (s.fpS a) (s.fpS b)) s)

/-- `lf.sfun.s` (R632). -/
def execLfSfunS (a b : RegNo) (s : State) : Out State :=
  gate (.lfSfunS a b) s
    (resultCmp (fpUnordered (s.fpS a) (s.fpS b)) (cmpFlags (s.fpS a) (s.fpS b)) s)

end Sys2Proof.Machine
end

