-- ==== Sys2Proof/Machine/LoadStore.lean ====
section
/-! DEFINITION. ORBIS loads and stores, and the atomic pair (`spec/42_orbis_loadstore.md`). -/

namespace Sys2Proof.Machine

/-- A load of `n` bytes: the value extended by `ext` goes to rD, on an exception nothing does (R502). -/
def loadInto (d a : RegNo) (i : BitVec 16) (n : Nat) (ext : BitVec 64 → Word) (s : State) : Out State :=
  (memRead (s.addr a i) n s).run (s.addr a i) fun v s => .next (advance (s.setReg d (ext v)))

/-- A store of the low `n` bytes of rB (R502). -/
def storeFrom (a b : RegNo) (i : BitVec 16) (n : Nat) (s : State) : Out State :=
  (memWrite (s.addr a i) n (s.reg b) s).run (s.addr a i) fun _ s => .next (advance s)

/-- `l.lbz` (R503). -/
def execLLbz (d a : RegNo) (i : BitVec 16) (s : State) : Out State :=
  gate (.lLbz d a i) s (loadInto d a i 1 id s)

/-- `l.lbs` (R504). -/
def execLLbs (d a : RegNo) (i : BitVec 16) (s : State) : Out State :=
  gate (.lLbs d a i) s (loadInto d a i 1 (fun v => sext s.cfg (v.setWidth 8)) s)

/-- `l.lhz` (R505). -/
def execLLhz (d a : RegNo) (i : BitVec 16) (s : State) : Out State :=
  gate (.lLhz d a i) s (loadInto d a i 2 id s)

/-- `l.lhs` (R506). -/
def execLLhs (d a : RegNo) (i : BitVec 16) (s : State) : Out State :=
  gate (.lLhs d a i) s (loadInto d a i 2 (fun v => sext s.cfg (v.setWidth 16)) s)

/-- `l.lwz` (R507). -/
def execLLwz (d a : RegNo) (i : BitVec 16) (s : State) : Out State :=
  gate (.lLwz d a i) s (loadInto d a i 4 id s)

/-- `l.lws` (R508). -/
def execLLws (d a : RegNo) (i : BitVec 16) (s : State) : Out State :=
  gate (.lLws d a i) s (loadInto d a i 4 (fun v => sext s.cfg (v.setWidth 32)) s)

/-- `l.ld` (R509). -/
def execLLd (d a : RegNo) (i : BitVec 16) (s : State) : Out State :=
  gate (.lLd d a i) s (loadInto d a i 8 id s)

/-- The upper half of a loaded single is ones, NaN boxing; on XLEN = 32 it does not exist (R510). -/
def boxSingle (v : BitVec 64) : Word := 0xFFFFFFFF#32 ++ v.setWidth 32

/-- `l.lf` (R510). -/
def execLLf (d a : RegNo) (i : BitVec 16) (s : State) : Out State :=
  gate (.lLf d a i) s (loadInto d a i 4 boxSingle s)

/-- The state after the load of `l.lwa`: rD has the word, and its physical address is reserved (R230, R511). After an
unaligned load it is the aligned word at the first byte's physical address that counts (DESIGN CHOICE, log 32). -/
def linkedLoad (d : RegNo) (r : List Nat × BitVec 64) (s : State) : State :=
  { s.setReg d r.2 with resv := some (r.1.headD 0) }

/-- `l.lwa` (R511). -/
def execLLwa (d a : RegNo) (i : BitVec 16) (s : State) : Out State :=
  gate (.lLwa d a i) s
    ((loadAt (s.addr a i) 4 s).run (s.addr a i) fun r s' => .next (advance (linkedLoad d r s')))

/-- `l.sb` (R512). -/
def execLSb (a b : RegNo) (i : BitVec 16) (s : State) : Out State := gate (.lSb a b i) s (storeFrom a b i 1 s)

/-- `l.sh` (R513). -/
def execLSh (a b : RegNo) (i : BitVec 16) (s : State) : Out State := gate (.lSh a b i) s (storeFrom a b i 2 s)

/-- `l.sw` (R514). -/
def execLSw (a b : RegNo) (i : BitVec 16) (s : State) : Out State := gate (.lSw a b i) s (storeFrom a b i 4 s)

/-- `l.sd` (R515). -/
def execLSd (a b : RegNo) (i : BitVec 16) (s : State) : Out State := gate (.lSd a b i) s (storeFrom a b i 8 s)

/-- The reservation holds at these physical addresses (R232). -/
def reserved (pas : List Nat) (s : State) : Bool := decide (s.resv = some (pas.headD 0))

/-- The end of `l.swa`: SR[F] says whether it stored, and no reservation is left (R232). -/
def endConditional (stored : Bool) (s : State) : State := { s.setF stored with resv := none }

/-- The conditional store at checked addresses: the word if the reservation holds, SR[F], and no reservation (R232,
R516). A store that is not made records no access, so nothing matches it (DESIGN CHOICE, log 22). -/
def conditionalStore (ea : Word) (v : BitVec 64) (pas : List Nat) (s : State) : AccRes Unit :=
  if reserved pas s then
    match writeAt ea 4 v pas s with
    | .ok _ s => .ok () (endConditional true s)
    | .exc e s => .exc e s
    | .refuse r => .refuse r
  else .ok () (endConditional false s)

/-- The access of `l.swa`: the checks of a store whether or not the reservation holds, then the conditional store (R232,
D33). -/
def conditionalAccess (ea : Word) (v : BitVec 64) (s : State) : AccRes Unit :=
  match accessPas .store ea 4 s with
  | .exc e s => .exc e s
  | .refuse r => .refuse r
  | .ok pas s => conditionalStore ea v pas s

/-- `l.swa` (R516). -/
def execLSwa (a b : RegNo) (i : BitVec 16) (s : State) : Out State :=
  gate (.lSwa a b i) s
    ((conditionalAccess (s.addr a i) (s.reg b) s).run (s.addr a i) fun _ s' => .next (advance s'))

end Sys2Proof.Machine
end

