-- ==== Sys2Proof/Machine/System.lean ====
section
/-! DEFINITION. ORBIS system, special-purpose register, synchronisation, multiply-accumulate and custom instructions
(`spec/44_orbis_system.md`). -/

namespace Sys2Proof.Machine

/-- `l.sys`: the system call exception, EPCR the next instruction; K goes nowhere (R551, R884). -/
def execLSys (k : BitVec 16) (s : State) : Out State :=
  gate (.lSys k) s (.next (enter .systemCall (s.pc + 4) none (executed s)))

/-- `l.trap`: the trap exception, unconditional, EPCR this instruction (R552, R886). -/
def execLTrap (k : BitVec 16) (s : State) : Out State := gate (.lTrap k) s (.next (enter .trap s.pc none s))

/-- `l.rfe`: the return from an exception; illegal in user mode (R553, D48). -/
def execLRfe (s : State) : Out State := gate .lRfe s (if s.sm then .next (returnFromExc s) else illegal s)

/-- `l.mfspr` (R555). -/
def execLMfspr (d a : RegNo) (k : BitVec 16) (s : State) : Out State :=
  gate (.lMfspr d a k) s (.next (advance (s.setReg d (readSpr s (s.sprAddr a k)))))

/-- `l.mtspr`: the write takes effect before the next instruction (R556, D14). -/
def execLMtspr (a b : RegNo) (k : BitVec 16) (s : State) : Out State :=
  gate (.lMtspr a b k) s (.next (writeSpr (advance s) (s.sprAddr a k) (s.reg b)))

/-- `l.msync`: no effect in strongly ordered memory (R560). -/
def execLMsync (s : State) : Out State := gate .lMsync s (.next (advance s))

/-- `l.psync`: no effect, nothing is fetched ahead (R561). -/
def execLPsync (s : State) : Out State := gate .lPsync s (.next (advance s))

/-- `l.csync`: no effect, every write is already in effect (R562). -/
def execLCsync (s : State) : Out State := gate .lCsync s (.next (advance s))

/-- The signed product of two operands as the accumulator takes it: exact on XLEN = 32, its low 64 bits on XLEN = 64
(R569, log 14). -/
def signedProduct (c : Config) (x y : Word) : Int := (BitVec.ofInt 64 (toS c x * toS c y)).toInt

/-- The unsigned product, likewise (R569, log 14). -/
def unsignedProduct (c : Config) (x y : Word) : Nat := (BitVec.ofNat 64 (toU c x * toU c y)).toNat

/-- A signed accumulate step to the exact value `z`: accumulator, SR[OV], and the range exception if due (R570, R573). -/
def macSigned (z : Int) (s : State) : Out State :=
  finishArith (causeIf (macOverflow z) causeOvMac) (macOverflow z)
    ((s.setMac (BitVec.ofInt 64 z)).setOv (macOverflow z))

/-- An unsigned accumulate step: accumulator, SR[CY], and the range exception if due (R572, R574). -/
def macUnsigned (v : BitVec 64) (cy : Bool) (s : State) : Out State :=
  finishArith (causeIf cy causeCyMac) false ((s.setMac v).setCy cy)

/-- `l.mac` (R570). -/
def execLMac (a b : RegNo) (s : State) : Out State :=
  gate (.lMac a b) s (macSigned (s.mac.toInt + signedProduct s.cfg (s.reg a) (s.reg b)) s)

/-- `l.maci` (R571). -/
def execLMaci (a : RegNo) (i : BitVec 16) (s : State) : Out State :=
  gate (.lMaci a i) s (macSigned (s.mac.toInt + signedProduct s.cfg (s.reg a) (sext s.cfg i)) s)

/-- `l.macu` (R572). -/
def execLMacu (a b : RegNo) (s : State) : Out State :=
  gate (.lMacu a b) s
    (macUnsigned (BitVec.ofNat 64 (s.mac.toNat + unsignedProduct s.cfg (s.reg a) (s.reg b)))
      (decide (2 ^ 64 ≤ s.mac.toNat + unsignedProduct s.cfg (s.reg a) (s.reg b))) s)

/-- `l.msb` (R573). -/
def execLMsb (a b : RegNo) (s : State) : Out State :=
  gate (.lMsb a b) s (macSigned (s.mac.toInt - signedProduct s.cfg (s.reg a) (s.reg b)) s)

/-- `l.msbu` (R574). -/
def execLMsbu (a b : RegNo) (s : State) : Out State :=
  gate (.lMsbu a b) s
    (macUnsigned (s.mac - BitVec.ofNat 64 (unsignedProduct s.cfg (s.reg a) (s.reg b)))
      (decide (s.mac.toNat < unsignedProduct s.cfg (s.reg a) (s.reg b))) s)

/-- What `l.macrc` reads: MACLO on XLEN = 32, the whole accumulator on XLEN = 64 (R575). -/
def macRead (s : State) : Word :=
  match s.cfg.xlen with
  | .x32 => zext s.maclo
  | .x64 => s.mac

/-- `l.macrc`: the accumulator is read and cleared (R575). -/
def execLMacrc (d : RegNo) (s : State) : Out State :=
  gate (.lMacrc d) s (.next (advance ((s.setReg d (macRead s)).setMac 0)))

end Sys2Proof.Machine
end

