-- ==== Sys2Proof/Machine/Vector.lean ====
section
/-! DEFINITION. The operations of ORVDX64: elements, saturation, and results element by element
(`spec/46_orvdx_a.md` section 1). -/

namespace Sys2Proof.Machine

/-- `b[i]`: byte element `i`, element 0 the least significant (R702). -/
def byteEl (x : Word) (i : Nat) : BitVec 8 := x.extractLsb' (8 * i) 8
/-- `h[i]`: half-word element `i` (R702). -/
def halfEl (x : Word) (i : Nat) : BitVec 16 := x.extractLsb' (16 * i) 16
/-- `n[i]`: nibble element `i` (R702). -/
def nibbleEl (x : Word) (i : Nat) : BitVec 4 := x.extractLsb' (4 * i) 4

/-- The register whose byte element `i` is `f i` (R702). -/
def vecB (f : Nat → BitVec 8) : Word := f 7 ++ f 6 ++ f 5 ++ f 4 ++ f 3 ++ f 2 ++ f 1 ++ f 0
/-- The register whose half-word element `i` is `f i` (R702). -/
def vecH (f : Nat → BitVec 16) : Word := f 3 ++ f 2 ++ f 1 ++ f 0
/-- The register whose nibble element `i` is `f i` (R702). -/
def vecN (f : Nat → BitVec 4) : Word :=
  f 15 ++ f 14 ++ f 13 ++ f 12 ++ f 11 ++ f 10 ++ f 9 ++ f 8 ++ f 7 ++ f 6 ++ f 5 ++ f 4 ++ f 3 ++ f 2 ++ f 1 ++ f 0

/-- An operation on the byte elements of two registers (R702). -/
def zipB (f : BitVec 8 → BitVec 8 → BitVec 8) (x y : Word) : Word := vecB fun i => f (byteEl x i) (byteEl y i)
/-- An operation on the half-word elements of two registers (R702). -/
def zipH (f : BitVec 16 → BitVec 16 → BitVec 16) (x y : Word) : Word := vecH fun i => f (halfEl x i) (halfEl y i)

/-- `satNs`: the exact integer clamped to a signed `n`-bit field (R701). -/
def satS (n : Nat) (z : Int) : BitVec n := BitVec.ofInt n (max (-(2 : Int) ^ (n - 1)) (min ((2 : Int) ^ (n - 1) - 1) z))
/-- `satNu`: the exact integer clamped to an unsigned `n`-bit field (R701). -/
def satU (n : Nat) (z : Int) : BitVec n := BitVec.ofInt n (max 0 (min ((2 : Int) ^ n - 1) z))

/-- The signed saturated sum of two elements (R712, R713). -/
def addSatS {n : Nat} (x y : BitVec n) : BitVec n := satS n (x.toInt + y.toInt)
/-- The unsigned saturated sum of two elements (R716, R717). -/
def addSatU {n : Nat} (x y : BitVec n) : BitVec n := satU n ((x.toNat : Int) + y.toNat)
/-- The signed saturated difference of two elements (R802, R803). -/
def subSatS {n : Nat} (x y : BitVec n) : BitVec n := satS n (x.toInt - y.toInt)
/-- The unsigned saturated difference of two elements (R806, R807). -/
def subSatU {n : Nat} (x y : BitVec n) : BitVec n := satU n ((x.toNat : Int) - y.toNat)
/-- The average of two signed elements, rounded toward minus infinity (R746, R747, D51). -/
def average {n : Nat} (x y : BitVec n) : BitVec n := BitVec.ofInt n ((x.toInt + y.toInt) / 2)
/-- The larger of two signed elements (R771, R772, D51). -/
def maxEl {n : Nat} (x y : BitVec n) : BitVec n := if y.toInt < x.toInt then x else y
/-- The smaller of two signed elements (R775, R776, D51). -/
def minEl {n : Nat} (x y : BitVec n) : BitVec n := if x.toInt < y.toInt then x else y
/-- The signed saturated product of two half-word elements (R778). -/
def mulSatS (x y : BitVec 16) : BitVec 16 := satS 16 (x.toInt * y.toInt)

/-- The relations between elements, signed (R706, D51). -/
inductive Rel where
  | eq
  | ge
  | gt
  | le
  | lt
  | ne
deriving DecidableEq, Repr

/-- A relation holds between two elements (R706, D51). -/
def relHolds {n : Nat} (r : Rel) (x y : BitVec n) : Bool :=
  match r with
  | .eq => decide (x = y)
  | .ge => decide (y.toInt ≤ x.toInt)
  | .gt => decide (y.toInt < x.toInt)
  | .le => decide (x.toInt ≤ y.toInt)
  | .lt => decide (x.toInt < y.toInt)
  | .ne => decide (x ≠ y)

/-- `repl`: one bit in every position (R720, R750). -/
def repl (n : Nat) (b : Bool) : BitVec n := if b then BitVec.allOnes n else 0

/-- The relation holds between all byte elements (R720). -/
def allB (r : Rel) (x y : Word) : Bool := (List.range 8).all fun i => relHolds r (byteEl x i) (byteEl y i)
/-- The relation holds between all half-word elements (R720). -/
def allH (r : Rel) (x y : Word) : Bool := (List.range 4).all fun i => relHolds r (halfEl x i) (halfEl y i)
/-- The relation holds between some byte elements (R720). -/
def anyB (r : Rel) (x y : Word) : Bool := (List.range 8).any fun i => relHolds r (byteEl x i) (byteEl y i)
/-- The relation holds between some half-word elements (R720). -/
def anyH (r : Rel) (x y : Word) : Bool := (List.range 4).any fun i => relHolds r (halfEl x i) (halfEl y i)

/-- The compare flag into every bit of rD and into SR[F] (R720). -/
def resultFlag (d : RegNo) (b : Bool) (s : State) : Out State := .next (advance ((s.setReg d (repl 64 b)).setF b))

/-- `acc[i]`: the four accumulators of VMACLO and VMACHI (R770). -/
def State.vacc (s : State) (i : Nat) : Word32 :=
  if i < 2 then s.vmaclo.extractLsb' (32 * i) 32 else s.vmachi.extractLsb' (32 * (i - 2)) 32

/-- The four accumulators replaced, and their low halves in rD (R770, R777, D52). -/
def resultVmac (d : RegNo) (f : Nat → Word32) (s : State) : Out State :=
  .next (advance
    { s.setReg d (vecH fun i => (f i).extractLsb' 0 16) with vmaclo := f 1 ++ f 0, vmachi := f 3 ++ f 2 })

/-- `sat32s` of an accumulator plus a product (R770). -/
def vmacAdd (s : State) (x y : Word) (i : Nat) : Word32 :=
  satS 32 ((halfEl x i).toInt * (halfEl y i).toInt + (s.vacc i).toInt)
/-- `sat32s` of an accumulator minus a product (R777). -/
def vmacSub (s : State) (x y : Word) (i : Nat) : Word32 :=
  satS 32 ((s.vacc i).toInt - (halfEl x i).toInt * (halfEl y i).toInt)

/-- Eight narrowed elements of `y` below eight of `x` (R782, R784, R786). -/
def packB (f : BitVec 8 → BitVec 4) (x y : Word) : Word :=
  vecN fun i => if i < 8 then f (byteEl y i) else f (byteEl x (i - 8))
/-- Four narrowed elements of `y` below four of `x` (R783, R785, R787). -/
def packH (f : BitVec 16 → BitVec 8) (x y : Word) : Word :=
  vecB fun i => if i < 4 then f (halfEl y i) else f (halfEl x (i - 4))

/-- A shift amount: the low 3 bits of a byte element (R789). -/
def countB (y : BitVec 8) : Nat := (y.extractLsb' 0 3).toNat
/-- A shift amount: the low 4 bits of a half-word element (R789). -/
def countH (y : BitVec 16) : Nat := (y.extractLsb' 0 4).toNat

end Sys2Proof.Machine
end

