-- ==== Sys2Proof/Machine/VectorA.lean ====
section
/-! DEFINITION. ORVDX64: add, all and any, and, average and compare (`spec/46_orvdx_a.md`). -/

namespace Sys2Proof.Machine

/-- `lv.add.b` (R710). -/
def execLvAddB (d a b : RegNo) (s : State) : Out State :=
  gate (.lvAddB d a b) s (result d (zipB (· + ·) (s.reg a) (s.reg b)) s)

/-- `lv.add.h` (R711). -/
def execLvAddH (d a b : RegNo) (s : State) : Out State :=
  gate (.lvAddH d a b) s (result d (zipH (· + ·) (s.reg a) (s.reg b)) s)

/-- `lv.adds.b` (R712). -/
def execLvAddsB (d a b : RegNo) (s : State) : Out State :=
  gate (.lvAddsB d a b) s (result d (zipB addSatS (s.reg a) (s.reg b)) s)

/-- `lv.adds.h` (R713). -/
def execLvAddsH (d a b : RegNo) (s : State) : Out State :=
  gate (.lvAddsH d a b) s (result d (zipH addSatS (s.reg a) (s.reg b)) s)

/-- `lv.addu.b` (R714). -/
def execLvAdduB (d a b : RegNo) (s : State) : Out State :=
  gate (.lvAdduB d a b) s (result d (zipB (· + ·) (s.reg a) (s.reg b)) s)

/-- `lv.addu.h` (R715). -/
def execLvAdduH (d a b : RegNo) (s : State) : Out State :=
  gate (.lvAdduH d a b) s (result d (zipH (· + ·) (s.reg a) (s.reg b)) s)

/-- `lv.addus.b` (R716). -/
def execLvAddusB (d a b : RegNo) (s : State) : Out State :=
  gate (.lvAddusB d a b) s (result d (zipB addSatU (s.reg a) (s.reg b)) s)

/-- `lv.addus.h`, unsigned (C7) (R717). -/
def execLvAddusH (d a b : RegNo) (s : State) : Out State :=
  gate (.lvAddusH d a b) s (result d (zipH addSatU (s.reg a) (s.reg b)) s)

/-- `lv.all_eq.b` (R721). -/
def execLvAllEqB (d a b : RegNo) (s : State) : Out State :=
  gate (.lvAllEqB d a b) s (resultFlag d (allB .eq (s.reg a) (s.reg b)) s)

/-- `lv.all_eq.h` (R722). -/
def execLvAllEqH (d a b : RegNo) (s : State) : Out State :=
  gate (.lvAllEqH d a b) s (resultFlag d (allH .eq (s.reg a) (s.reg b)) s)

/-- `lv.all_ge.b` (R723). -/
def execLvAllGeB (d a b : RegNo) (s : State) : Out State :=
  gate (.lvAllGeB d a b) s (resultFlag d (allB .ge (s.reg a) (s.reg b)) s)

/-- `lv.all_ge.h` (R724). -/
def execLvAllGeH (d a b : RegNo) (s : State) : Out State :=
  gate (.lvAllGeH d a b) s (resultFlag d (allH .ge (s.reg a) (s.reg b)) s)

/-- `lv.all_gt.b` (R725). -/
def execLvAllGtB (d a b : RegNo) (s : State) : Out State :=
  gate (.lvAllGtB d a b) s (resultFlag d (allB .gt (s.reg a) (s.reg b)) s)

/-- `lv.all_gt.h` (R726). -/
def execLvAllGtH (d a b : RegNo) (s : State) : Out State :=
  gate (.lvAllGtH d a b) s (resultFlag d (allH .gt (s.reg a) (s.reg b)) s)

/-- `lv.all_le.b` (R727). -/
def execLvAllLeB (d a b : RegNo) (s : State) : Out State :=
  gate (.lvAllLeB d a b) s (resultFlag d (allB .le (s.reg a) (s.reg b)) s)

/-- `lv.all_le.h` (R728). -/
def execLvAllLeH (d a b : RegNo) (s : State) : Out State :=
  gate (.lvAllLeH d a b) s (resultFlag d (allH .le (s.reg a) (s.reg b)) s)

/-- `lv.all_lt.b` (R729). -/
def execLvAllLtB (d a b : RegNo) (s : State) : Out State :=
  gate (.lvAllLtB d a b) s (resultFlag d (allB .lt (s.reg a) (s.reg b)) s)

/-- `lv.all_lt.h` (R730). -/
def execLvAllLtH (d a b : RegNo) (s : State) : Out State :=
  gate (.lvAllLtH d a b) s (resultFlag d (allH .lt (s.reg a) (s.reg b)) s)

/-- `lv.all_ne.b` (R731). -/
def execLvAllNeB (d a b : RegNo) (s : State) : Out State :=
  gate (.lvAllNeB d a b) s (resultFlag d (allB .ne (s.reg a) (s.reg b)) s)

/-- `lv.all_ne.h` (R732). -/
def execLvAllNeH (d a b : RegNo) (s : State) : Out State :=
  gate (.lvAllNeH d a b) s (resultFlag d (allH .ne (s.reg a) (s.reg b)) s)

/-- `lv.and` (R733). -/
def execLvAnd (d a b : RegNo) (s : State) : Out State :=
  gate (.lvAnd d a b) s (result d (s.reg a &&& s.reg b) s)

/-- `lv.any_eq.b` (R734). -/
def execLvAnyEqB (d a b : RegNo) (s : State) : Out State :=
  gate (.lvAnyEqB d a b) s (resultFlag d (anyB .eq (s.reg a) (s.reg b)) s)

/-- `lv.any_eq.h` (R735). -/
def execLvAnyEqH (d a b : RegNo) (s : State) : Out State :=
  gate (.lvAnyEqH d a b) s (resultFlag d (anyH .eq (s.reg a) (s.reg b)) s)

/-- `lv.any_ge.b` (R736). -/
def execLvAnyGeB (d a b : RegNo) (s : State) : Out State :=
  gate (.lvAnyGeB d a b) s (resultFlag d (anyB .ge (s.reg a) (s.reg b)) s)

/-- `lv.any_ge.h` (R737). -/
def execLvAnyGeH (d a b : RegNo) (s : State) : Out State :=
  gate (.lvAnyGeH d a b) s (resultFlag d (anyH .ge (s.reg a) (s.reg b)) s)

/-- `lv.any_gt.b` (R738). -/
def execLvAnyGtB (d a b : RegNo) (s : State) : Out State :=
  gate (.lvAnyGtB d a b) s (resultFlag d (anyB .gt (s.reg a) (s.reg b)) s)

/-- `lv.any_gt.h` (R739). -/
def execLvAnyGtH (d a b : RegNo) (s : State) : Out State :=
  gate (.lvAnyGtH d a b) s (resultFlag d (anyH .gt (s.reg a) (s.reg b)) s)

/-- `lv.any_le.b` (R740). -/
def execLvAnyLeB (d a b : RegNo) (s : State) : Out State :=
  gate (.lvAnyLeB d a b) s (resultFlag d (anyB .le (s.reg a) (s.reg b)) s)

/-- `lv.any_le.h` (R741). -/
def execLvAnyLeH (d a b : RegNo) (s : State) : Out State :=
  gate (.lvAnyLeH d a b) s (resultFlag d (anyH .le (s.reg a) (s.reg b)) s)

/-- `lv.any_lt.b` (R742). -/
def execLvAnyLtB (d a b : RegNo) (s : State) : Out State :=
  gate (.lvAnyLtB d a b) s (resultFlag d (anyB .lt (s.reg a) (s.reg b)) s)

/-- `lv.any_lt.h` (R743). -/
def execLvAnyLtH (d a b : RegNo) (s : State) : Out State :=
  gate (.lvAnyLtH d a b) s (resultFlag d (anyH .lt (s.reg a) (s.reg b)) s)

/-- `lv.any_ne.b` (R744). -/
def execLvAnyNeB (d a b : RegNo) (s : State) : Out State :=
  gate (.lvAnyNeB d a b) s (resultFlag d (anyB .ne (s.reg a) (s.reg b)) s)

/-- `lv.any_ne.h` (R745). -/
def execLvAnyNeH (d a b : RegNo) (s : State) : Out State :=
  gate (.lvAnyNeH d a b) s (resultFlag d (anyH .ne (s.reg a) (s.reg b)) s)

/-- `lv.avg.b` (R746). -/
def execLvAvgB (d a b : RegNo) (s : State) : Out State :=
  gate (.lvAvgB d a b) s (result d (zipB average (s.reg a) (s.reg b)) s)

/-- `lv.avg.h` (R747). -/
def execLvAvgH (d a b : RegNo) (s : State) : Out State :=
  gate (.lvAvgH d a b) s (result d (zipH average (s.reg a) (s.reg b)) s)

/-- `lv.cmp_eq.b` (R751). -/
def execLvCmpEqB (d a b : RegNo) (s : State) : Out State :=
  gate (.lvCmpEqB d a b) s (result d (zipB (fun x y => repl 8 (relHolds .eq x y)) (s.reg a) (s.reg b)) s)

/-- `lv.cmp_eq.h` (R752). -/
def execLvCmpEqH (d a b : RegNo) (s : State) : Out State :=
  gate (.lvCmpEqH d a b) s (result d (zipH (fun x y => repl 16 (relHolds .eq x y)) (s.reg a) (s.reg b)) s)

/-- `lv.cmp_ge.b` (R753). -/
def execLvCmpGeB (d a b : RegNo) (s : State) : Out State :=
  gate (.lvCmpGeB d a b) s (result d (zipB (fun x y => repl 8 (relHolds .ge x y)) (s.reg a) (s.reg b)) s)

/-- `lv.cmp_ge.h` (R754). -/
def execLvCmpGeH (d a b : RegNo) (s : State) : Out State :=
  gate (.lvCmpGeH d a b) s (result d (zipH (fun x y => repl 16 (relHolds .ge x y)) (s.reg a) (s.reg b)) s)

/-- `lv.cmp_gt.b` (R755). -/
def execLvCmpGtB (d a b : RegNo) (s : State) : Out State :=
  gate (.lvCmpGtB d a b) s (result d (zipB (fun x y => repl 8 (relHolds .gt x y)) (s.reg a) (s.reg b)) s)

/-- `lv.cmp_gt.h` (R756). -/
def execLvCmpGtH (d a b : RegNo) (s : State) : Out State :=
  gate (.lvCmpGtH d a b) s (result d (zipH (fun x y => repl 16 (relHolds .gt x y)) (s.reg a) (s.reg b)) s)

/-- `lv.cmp_le.b` (R757). -/
def execLvCmpLeB (d a b : RegNo) (s : State) : Out State :=
  gate (.lvCmpLeB d a b) s (result d (zipB (fun x y => repl 8 (relHolds .le x y)) (s.reg a) (s.reg b)) s)

/-- `lv.cmp_le.h` (R758). -/
def execLvCmpLeH (d a b : RegNo) (s : State) : Out State :=
  gate (.lvCmpLeH d a b) s (result d (zipH (fun x y => repl 16 (relHolds .le x y)) (s.reg a) (s.reg b)) s)

/-- `lv.cmp_lt.b`, strict (C8) (R759). -/
def execLvCmpLtB (d a b : RegNo) (s : State) : Out State :=
  gate (.lvCmpLtB d a b) s (result d (zipB (fun x y => repl 8 (relHolds .lt x y)) (s.reg a) (s.reg b)) s)

/-- `lv.cmp_lt.h`, strict (C8) (R760). -/
def execLvCmpLtH (d a b : RegNo) (s : State) : Out State :=
  gate (.lvCmpLtH d a b) s (result d (zipH (fun x y => repl 16 (relHolds .lt x y)) (s.reg a) (s.reg b)) s)

/-- `lv.cmp_ne.b` (R761). -/
def execLvCmpNeB (d a b : RegNo) (s : State) : Out State :=
  gate (.lvCmpNeB d a b) s (result d (zipB (fun x y => repl 8 (relHolds .ne x y)) (s.reg a) (s.reg b)) s)

/-- `lv.cmp_ne.h` (R762). -/
def execLvCmpNeH (d a b : RegNo) (s : State) : Out State :=
  gate (.lvCmpNeH d a b) s (result d (zipH (fun x y => repl 16 (relHolds .ne x y)) (s.reg a) (s.reg b)) s)

end Sys2Proof.Machine
end

