-- ==== Sys2Proof/Machine/VectorB.lean ====
section
/-! DEFINITION. ORVDX64: multiply, maximum and minimum, merge, logic, pack, permute, shift and subtract (`spec/47_orvdx_b.md`). -/

namespace Sys2Proof.Machine

/-- `lv.madds.h` (R770). -/
def execLvMaddsH (d a b : RegNo) (s : State) : Out State :=
  gate (.lvMaddsH d a b) s (resultVmac d (vmacAdd s (s.reg a) (s.reg b)) s)

/-- `lv.msubs.h` (R777). -/
def execLvMsubsH (d a b : RegNo) (s : State) : Out State :=
  gate (.lvMsubsH d a b) s (resultVmac d (vmacSub s (s.reg a) (s.reg b)) s)

/-- `lv.muls.h` (R778). -/
def execLvMulsH (d a b : RegNo) (s : State) : Out State :=
  gate (.lvMulsH d a b) s (result d (zipH mulSatS (s.reg a) (s.reg b)) s)

/-- `lv.max.b` (R771). -/
def execLvMaxB (d a b : RegNo) (s : State) : Out State :=
  gate (.lvMaxB d a b) s (result d (zipB maxEl (s.reg a) (s.reg b)) s)

/-- `lv.max.h` (R772). -/
def execLvMaxH (d a b : RegNo) (s : State) : Out State :=
  gate (.lvMaxH d a b) s (result d (zipH maxEl (s.reg a) (s.reg b)) s)

/-- `lv.min.b` (R775). -/
def execLvMinB (d a b : RegNo) (s : State) : Out State :=
  gate (.lvMinB d a b) s (result d (zipB minEl (s.reg a) (s.reg b)) s)

/-- `lv.min.h` (R776). -/
def execLvMinH (d a b : RegNo) (s : State) : Out State :=
  gate (.lvMinH d a b) s (result d (zipH minEl (s.reg a) (s.reg b)) s)

/-- `lv.merge.b`, element by element from the same position (C9) (R773). -/
def execLvMergeB (d a b : RegNo) (s : State) : Out State :=
  gate (.lvMergeB d a b) s (result d (vecB fun i => if i % 2 = 0 then byteEl (s.reg b) i else byteEl (s.reg a) i) s)

/-- `lv.merge.h`, element by element from the same position (C9) (R774). -/
def execLvMergeH (d a b : RegNo) (s : State) : Out State :=
  gate (.lvMergeH d a b) s (result d (vecH fun i => if i % 2 = 0 then halfEl (s.reg b) i else halfEl (s.reg a) i) s)

/-- `lv.nand` (R779). -/
def execLvNand (d a b : RegNo) (s : State) : Out State :=
  gate (.lvNand d a b) s (result d (~~~(s.reg a &&& s.reg b)) s)

/-- `lv.nor` (R780). -/
def execLvNor (d a b : RegNo) (s : State) : Out State :=
  gate (.lvNor d a b) s (result d (~~~(s.reg a ||| s.reg b)) s)

/-- `lv.or` (R781). -/
def execLvOr (d a b : RegNo) (s : State) : Out State :=
  gate (.lvOr d a b) s (result d (s.reg a ||| s.reg b) s)

/-- `lv.xor` (R815). -/
def execLvXor (d a b : RegNo) (s : State) : Out State :=
  gate (.lvXor d a b) s (result d (s.reg a ^^^ s.reg b) s)

/-- `lv.pack.b` (R782). -/
def execLvPackB (d a b : RegNo) (s : State) : Out State :=
  gate (.lvPackB d a b) s (result d (packB (fun x => x.extractLsb' 0 4) (s.reg a) (s.reg b)) s)

/-- `lv.pack.h` (R783). -/
def execLvPackH (d a b : RegNo) (s : State) : Out State :=
  gate (.lvPackH d a b) s (result d (packH (fun x => x.extractLsb' 0 8) (s.reg a) (s.reg b)) s)

/-- `lv.packs.b` (R784). -/
def execLvPacksB (d a b : RegNo) (s : State) : Out State :=
  gate (.lvPacksB d a b) s (result d (packB (fun x => satS 4 x.toInt) (s.reg a) (s.reg b)) s)

/-- `lv.packs.h` (R785). -/
def execLvPacksH (d a b : RegNo) (s : State) : Out State :=
  gate (.lvPacksH d a b) s (result d (packH (fun x => satS 8 x.toInt) (s.reg a) (s.reg b)) s)

/-- `lv.packus.b` (R786). -/
def execLvPackusB (d a b : RegNo) (s : State) : Out State :=
  gate (.lvPackusB d a b) s (result d (packB (fun x => satU 4 x.toNat) (s.reg a) (s.reg b)) s)

/-- `lv.packus.h` (R787). -/
def execLvPackusH (d a b : RegNo) (s : State) : Out State :=
  gate (.lvPackusH d a b) s (result d (packH (fun x => satU 8 x.toNat) (s.reg a) (s.reg b)) s)

/-- `lv.perm.n` (R788). -/
def execLvPermN (d a b : RegNo) (s : State) : Out State :=
  gate (.lvPermN d a b) s (result d (vecN fun i => nibbleEl (s.reg a) (nibbleEl (s.reg b) i).toNat) s)

/-- `lv.unpack.b`; rB is not read (R813). -/
def execLvUnpackB (d a b : RegNo) (s : State) : Out State :=
  gate (.lvUnpackB d a b) s (result d (vecB fun i => (nibbleEl (s.reg a) i).signExtend 8) s)

/-- `lv.unpack.h`; rB is not read (R814). -/
def execLvUnpackH (d a b : RegNo) (s : State) : Out State :=
  gate (.lvUnpackH d a b) s (result d (vecH fun i => (byteEl (s.reg a) i).signExtend 16) s)

/-- `lv.rl.b` (R790). -/
def execLvRlB (d a b : RegNo) (s : State) : Out State :=
  gate (.lvRlB d a b) s (result d (zipB (fun x y => x.rotateLeft (countB y)) (s.reg a) (s.reg b)) s)

/-- `lv.rl.h` (R791). -/
def execLvRlH (d a b : RegNo) (s : State) : Out State :=
  gate (.lvRlH d a b) s (result d (zipH (fun x y => x.rotateLeft (countH y)) (s.reg a) (s.reg b)) s)

/-- `lv.sll.b` (R792). -/
def execLvSllB (d a b : RegNo) (s : State) : Out State :=
  gate (.lvSllB d a b) s (result d (zipB (fun x y => x <<< countB y) (s.reg a) (s.reg b)) s)

/-- `lv.sll.h` (R793). -/
def execLvSllH (d a b : RegNo) (s : State) : Out State :=
  gate (.lvSllH d a b) s (result d (zipH (fun x y => x <<< countH y) (s.reg a) (s.reg b)) s)

/-- `lv.sll`, the whole register by rB[2:0] (C12) (R794). -/
def execLvSll (d a b : RegNo) (s : State) : Out State :=
  gate (.lvSll d a b) s (result d (s.reg a <<< ((s.reg b).extractLsb' 0 3).toNat) s)

/-- `lv.srl.b` (R795). -/
def execLvSrlB (d a b : RegNo) (s : State) : Out State :=
  gate (.lvSrlB d a b) s (result d (zipB (fun x y => x >>> countB y) (s.reg a) (s.reg b)) s)

/-- `lv.srl.h` (R796). -/
def execLvSrlH (d a b : RegNo) (s : State) : Out State :=
  gate (.lvSrlH d a b) s (result d (zipH (fun x y => x >>> countH y) (s.reg a) (s.reg b)) s)

/-- `lv.sra.b` (R797). -/
def execLvSraB (d a b : RegNo) (s : State) : Out State :=
  gate (.lvSraB d a b) s (result d (zipB (fun x y => x.sshiftRight (countB y)) (s.reg a) (s.reg b)) s)

/-- `lv.sra.h` (R798). -/
def execLvSraH (d a b : RegNo) (s : State) : Out State :=
  gate (.lvSraH d a b) s (result d (zipH (fun x y => x.sshiftRight (countH y)) (s.reg a) (s.reg b)) s)

/-- `lv.srl`, the whole register by rB[2:0] (C12) (R799). -/
def execLvSrl (d a b : RegNo) (s : State) : Out State :=
  gate (.lvSrl d a b) s (result d (s.reg a >>> ((s.reg b).extractLsb' 0 3).toNat) s)

/-- `lv.sub.b` (R800). -/
def execLvSubB (d a b : RegNo) (s : State) : Out State :=
  gate (.lvSubB d a b) s (result d (zipB (· - ·) (s.reg a) (s.reg b)) s)

/-- `lv.sub.h` (R801). -/
def execLvSubH (d a b : RegNo) (s : State) : Out State :=
  gate (.lvSubH d a b) s (result d (zipH (· - ·) (s.reg a) (s.reg b)) s)

/-- `lv.subs.b` (R802). -/
def execLvSubsB (d a b : RegNo) (s : State) : Out State :=
  gate (.lvSubsB d a b) s (result d (zipB subSatS (s.reg a) (s.reg b)) s)

/-- `lv.subs.h` (R803). -/
def execLvSubsH (d a b : RegNo) (s : State) : Out State :=
  gate (.lvSubsH d a b) s (result d (zipH subSatS (s.reg a) (s.reg b)) s)

/-- `lv.subu.b` (R804). -/
def execLvSubuB (d a b : RegNo) (s : State) : Out State :=
  gate (.lvSubuB d a b) s (result d (zipB (· - ·) (s.reg a) (s.reg b)) s)

/-- `lv.subu.h` (R805). -/
def execLvSubuH (d a b : RegNo) (s : State) : Out State :=
  gate (.lvSubuH d a b) s (result d (zipH (· - ·) (s.reg a) (s.reg b)) s)

/-- `lv.subus.b` (R806). -/
def execLvSubusB (d a b : RegNo) (s : State) : Out State :=
  gate (.lvSubusB d a b) s (result d (zipB subSatU (s.reg a) (s.reg b)) s)

/-- `lv.subus.h` (R807). -/
def execLvSubusH (d a b : RegNo) (s : State) : Out State :=
  gate (.lvSubusH d a b) s (result d (zipH subSatU (s.reg a) (s.reg b)) s)

end Sys2Proof.Machine
end

