-- ==== Sys2Proof/Machine/Cycle.lean ====
section
/-! DEFINITION. One step of a running core, in the order of R901. -/

namespace Sys2Proof.Machine

/-- The performance counters count the access an instruction made (R161, LA and SA). -/
def countAccess (sm : Bool) (s : State) : State :=
  match s.acc with
  | some { kind := .load, .. } => countEvent 4 sm 1 s
  | some { kind := .store, .. } => countEvent 5 sm 1 s
  | _ => s

/-- The performance counters count a TLB miss (R161, DTLBM and ITLBM). -/
def countMiss (sm : Bool) (s : State) : State :=
  match s.exc with
  | some .dtlbMiss => countEvent 12 sm 1 s
  | some .itlbMiss => countEvent 13 sm 1 s
  | _ => s

/-- After an instruction in mode `sm` at `pc`: its events are counted, and when it completed the debug unit looks at it
(R148, R149, R161). `pre` are the watchpoints its fetch fired. -/
def finishInstr (i : Instr) (pre : BitVec 10) (pc : Word) (sm : Bool) (t : State) : State :=
  let t := countMiss sm (countAccess sm t)
  if t.exc = none then debugAfter pre pc sm (isBranch i) t else t

/-- A decoded instruction executes (R901 steps 7 and 8). -/
def runInstr (i : Instr) (pre : BitVec 10) (s : State) : Out State :=
  match exec i s with
  | .next t => .next (finishInstr i pre s.pc s.sm t)
  | .fault f => .fault f
  | .refused r => .refused r

/-- A fetched word is executed: first the breakpoint of its fetch address, then its instruction, or the illegal instruction
exception where it is none (R148, R320, R901 step 7). -/
def runWord (w : Word32) (s : State) : Out State :=
  let s := countEvent 6 s.sm 1 s
  let b := debugBefore s
  if breakpoints b.2 b.1 = 0 then
    match decodeWord w with
    | .ok i => runInstr i b.1 b.2
    | .error _ => illegal b.2
  else .next (enter .trap b.2.pc none b.2)

/-- Fetch at the pc and execute (R216, R901 step 7). -/
def fetchAndRun (s : State) : Out State :=
  match fetchWord s with
  | .ok w s' => runWord w s'
  | .exc e s' => .next (countMiss s'.sm (enter e s'.pc (some (trunc s'.cfg s'.pc)) s'))
  | .refuse r => .refused r

/-- What is taken before the next instruction: tick timer, external interrupt, pending debug trap, in this order (R901
steps 4 to 6). -/
def pendingEntry (s : State) : Option State :=
  if timerRequest s && s.tee then some (enter .tickTimer s.pc none s)
  else if irqRequest s && s.iee then some (enter .external s.pc none s)
  else if s.dbgPending then some { enter .trap s.pc none s with dbgPending := false }
  else none

/-- A core that runs: an exception before the instruction, or the instruction (R901 steps 4 to 8). -/
def runCore (s : State) : Out State :=
  match pendingEntry s with
  | some t => .next t
  | none => fetchAndRun s

/-- Steps 1 and 3 of R901: the environment acts, a wake-up is tested, and the step's own records start empty. -/
def beginStep (s : State) : State := wake { envStep s with acc := none, exc := none }

/-- One step (R901): the environment, the reset line, the core's status, then the running core. -/
def cycle (s : State) : Out State :=
  if resetAsserted s then .next (resetEvent (envStep s))
  else
    match (beginStep s).status with
    | .running => runCore (beginStep s)
    | .doze | .sleep | .suspend | .stopped => .next (beginStep s)

/-- The bytes of an instruction of `nbits` bits numbered as the opcode table numbers them, at the pc's physical address
(log 21). -/
def placeWord (s : State) (nbits w : Nat) : State :=
  match wholePas .fetch (trunc s.cfg s.pc) 4 s with
  | .ok pas _ => { s with mem := writeBytes s.mem pas (bytesOfWord (BitVec.ofNat 32 (w % 2 ^ nbits))) }
  | .exc .. | .refuse _ => s

end Sys2Proof.Machine
end

