-- ==== Sys2Proof/Machine/Step.lean ====
section
/-! DEFINITION. The machine's step and the placing of one instruction where it fetches next. -/

namespace Sys2Proof.Machine

/-- One step of the machine (R901). -/
def step (s : State) : Host.Outcome State Fault Refusal := cycle s

/-- `s` with this instruction where the next step fetches (log 21). -/
def State.withFetchWord (s : State) (nbits w : Nat) : State := placeWord s nbits w

end Sys2Proof.Machine
end

