-- ==== Sys2Proof/WellFormed.lean ====
section
/-! DEFINITION. Which configurations and which instructions are well formed. The checks themselves stand in
`Sys2Proof/Machine/Presence.lean`. -/

namespace Sys2Proof

/-- The configuration is one the architecture allows (R9). -/
def Config.legal (c : Config) : Bool := Machine.legalConfig c

/-- The instruction is one the configuration executes: implemented (R322), every register it names present (R883). -/
def Instr.wellFormed (c : Config) (i : Instr) : Bool := Machine.implemented c i && Machine.regsExist c i

end Sys2Proof
end

