-- ==== Sys2Proof/Safety.lean ====
section
/-! DEFINITION. The terms claims use: when an instruction is ready to run, what it leaves unchanged, which bytes an access
touches, and the invariant of the machine. -/

namespace Sys2Proof.Machine

/-- The instruction is implemented and the registers it names exist: the conditions that hold before its own effect. -/
structure Ready (s : State) (i : Instr) : Prop where
  /-- Its subset, its unit and its class II choice are present. -/
  impl : implemented s.cfg i = true
  /-- Every register it names exists. -/
  regs : regsExist s.cfg i = true

/-- The instruction is done and the core goes on: to the pending target or to the next address (R400, R530). -/
structure GoesOn (s t : State) : Prop where
  /-- The next address. -/
  pc : t.pc = s.nextPc
  /-- PPC. -/
  ppc : t.ppc = s.pc
  /-- No delay-slot target is left. -/
  ds : t.ds = none

/-- Every general register of every context is unchanged but those of `rs` in the current context. -/
def GprFrame (s t : State) (rs : List RegNo) : Prop :=
  ∀ (c : BitVec 4) (r : RegNo), ¬(c = s.ctx ∧ r ∈ rs) → t.gpr.get (gprIndex c r) = s.gpr.get (gprIndex c r)

/-- Every byte of memory outside `as` is unchanged. -/
def MemFrame (s t : State) (as : List Nat) : Prop := ∀ a, a ∉ as → readByte t.mem a = readByte s.mem a

/-- The instruction completes: rD reads `v`, SR is `w`, and nothing else changes. -/
def RegResult (i : Instr) (s : State) (d : RegNo) (v : Word) (w : Word32) : Prop :=
  ∃ t, exec i s = .next t ∧ t.reg d = v ∧ t.sr = w ∧ GoesOn s t ∧ GprFrame s t [d] ∧ MemFrame s t []
    ∧ t = { s with gpr := t.gpr, pc := t.pc, ppc := t.ppc, ds := t.ds, sr := t.sr }

/-- The instruction completes: SR is `w`, and nothing else changes. -/
def SrResult (i : Instr) (s : State) (w : Word32) : Prop :=
  ∃ t, exec i s = .next t ∧ t.sr = w ∧ GoesOn s t ∧ GprFrame s t [] ∧ MemFrame s t []
    ∧ t = { s with pc := t.pc, ppc := t.ppc, ds := t.ds, sr := t.sr }

/-- SR with CY and OV replaced. -/
def srFlags (w : Word32) (cy ov : Bool) : Word32 := putBit (putBit w 10 cy) 11 ov

/-- A floating-point instruction completes: the registers of `rs` may change as `P` says, FPCSR gains `flags`, and SR is
`w`; nothing else changes. -/
def FpResult (i : Instr) (s : State) (rs : List RegNo) (flags w : Word32) (P : State → Prop) : Prop :=
  ∃ t, exec i s = .next t ∧ P t ∧ t.fpcsr = s.fpcsr ||| flags ∧ t.sr = w ∧ GoesOn s t ∧ GprFrame s t rs ∧ MemFrame s t []
    ∧ t = { s with gpr := t.gpr, pc := t.pc, ppc := t.ppc, ds := t.ds, sr := t.sr, fpcsr := t.fpcsr, free := t.free }

/-- The floating-point exception is not due for these flags (R602). -/
def NoFpTrap (s : State) (flags : Word32) : Prop := s.fpee = false ∨ flags = 0

/-- Bytes as a number, the first the most significant. -/
def bytesValue (bs : List Byte) : Nat := bs.foldl (fun v b => v * 256 + b.toNat) 0

/-- The number that a data operand in these bytes of memory holds, in the data byte order (R202, R203). -/
def operandValue (s : State) (pas : List Nat) : Nat :=
  bytesValue (if s.littleEndian then (pas.map (readByte s.mem)).reverse else pas.map (readByte s.mem))

/-- Byte `j` of an `n`-byte data operand with value `v`, in the data byte order (R202, R203). -/
def operandByte (s : State) (n : Nat) (v : Word) (j : Nat) : Byte :=
  if s.littleEndian then v.extractLsb' (8 * j) 8 else v.extractLsb' (8 * (n - 1 - j)) 8

/-- COUNT of the counter of watchpoint `n`, 8 or 9, is its MATCH (R144, R148). -/
def CountIsMatch (s : State) (n : Nat) : Prop :=
  if n = 8 then s.dbg.dwcr0.toNat % 2 ^ 16 = s.dbg.dwcr0.toNat / 2 ^ 16
  else s.dbg.dwcr1.toNat % 2 ^ 16 = s.dbg.dwcr1.toNat / 2 ^ 16

/-- A fetch that fires the watchpoints `w` fires watchpoint `n`, 8 or 9, as well: it brings the counter to its match value,
or fires watchpoint 3 or 7 where DMR1 chains it (R142, R148, log 22). -/
def FetchFires (s : State) (w : BitVec 8) (n : Nat) : Prop :=
  let sel := s.dbg.dmr1.toNat / 4 ^ n % 4
  let hit := s.cfg.wpci = true ∧ CountIsMatch (countWatchpoints s (w.setWidth 10)) n
  (sel = 0 ∧ hit ∧ ¬CountIsMatch s n) ∨ (sel = 1 ∧ hit ∧ w.getLsbD (4 * n - 29) = true)
    ∨ (sel = 2 ∧ (hit ∧ ¬CountIsMatch s n ∨ w.getLsbD (4 * n - 29) = true))

/-- The physical address of an untranslated effective address (R217). -/
def plainPa (s : State) (ea : Word) : Nat := toU s.cfg ea % 2 ^ s.cfg.paBits

/-- The physical addresses of the bytes of an untranslated operand. -/
def plainPas (s : State) (ea : Word) (n : Nat) : List Nat :=
  if aligned ea n then (List.range n).map fun j => plainPa s ea + j else (byteAddrs s.cfg ea n).map (plainPa s)

/-- What the translation of a data access that succeeds changes: under software reload only the data MMU's registers; with
a hardware walk it may also write a page table entry back, which can cost the reservation, and draw a free value. -/
structure OnlyMmu (s s' : State) : Prop where
  /-- Nothing else, with or without a hardware walk. -/
  frame : s' = { s with dmmu := s'.dmmu, mem := s'.mem, resv := s'.resv, free := s'.free }
  /-- The reservation is kept or lost. -/
  resv : s'.resv = s.resv ∨ s'.resv = none
  /-- Under software reload the data MMU's registers alone. -/
  soft : s.cfg.dmmu.htr = false → s' = { s with dmmu := s'.dmmu }

/-- The load and store instructions with their effective address, size and kind: what R215 applies to. -/
def accessOf (s : State) : Instr → Option (AccKind × Word × Nat)
  | .lLbz _ a i | .lLbs _ a i => some (.load, s.addr a i, 1)
  | .lLhz _ a i | .lLhs _ a i => some (.load, s.addr a i, 2)
  | .lLwz _ a i | .lLws _ a i | .lLf _ a i | .lLwa _ a i => some (.load, s.addr a i, 4)
  | .lLd _ a i => some (.load, s.addr a i, 8)
  | .lSb a _ i => some (.store, s.addr a i, 1)
  | .lSh a _ i => some (.store, s.addr a i, 2)
  | .lSw a _ i | .lSwa a _ i => some (.store, s.addr a i, 4)
  | .lSd a _ i => some (.store, s.addr a i, 8)
  | _ => none

/-- An addition `x + y + cin` completes without a range exception (R402-R405). -/
def AddResult (i : Instr) (s : State) (d : RegNo) (x y : Word) (cin : Nat) : Prop :=
  ∀ cy ov, cy = decide (2 ^ xlenBits s.cfg ≤ toU s.cfg x + toU s.cfg y + cin) →
    ov = outOfRange s.cfg (toS s.cfg x + toS s.cfg y + cin) → rangeDue s (addCauses cy ov) ov = false →
    RegResult i s d (ofN s.cfg (toU s.cfg x + toU s.cfg y + cin)) (srFlags s.sr cy ov)

/-- The result `v` and SR `w` are written and AESR gains the enabled causes, then the range exception is taken (R401). -/
def RangeResult (i : Instr) (s : State) (d : RegNo) (v : Word) (w causes : Word32) : Prop :=
  ∃ u, exec i s = .next (enter .range s.pc none u) ∧ u.reg d = v ∧ u.sr = w ∧ u.ppc = s.pc
    ∧ u.aesr = (if s.cfg.hasAecr then s.aesr ||| (s.aecr &&& causes) else s.aesr) ∧ GprFrame s u [d]
    ∧ u = { s with gpr := u.gpr, sr := u.sr, ppc := u.ppc, aesr := u.aesr }

/-- An addition `x + y + cin` for which a range exception is due (R401-R405). -/
def AddTrap (i : Instr) (s : State) (d : RegNo) (x y : Word) (cin : Nat) : Prop :=
  ∀ cy ov, cy = decide (2 ^ xlenBits s.cfg ≤ toU s.cfg x + toU s.cfg y + cin) →
    ov = outOfRange s.cfg (toS s.cfg x + toS s.cfg y + cin) → rangeDue s (addCauses cy ov) ov = true →
    RangeResult i s d (ofN s.cfg (toU s.cfg x + toU s.cfg y + cin)) (srFlags s.sr cy ov) (addCauses cy ov)

/-- The instruction completes: `{MACHI, MACLO}` is `v`, SR is `w`, and nothing else changes. -/
def MacResult (i : Instr) (s : State) (v : BitVec 64) (w : Word32) : Prop :=
  ∃ t, exec i s = .next t ∧ t.machi ++ t.maclo = v ∧ t.sr = w ∧ GoesOn s t ∧ GprFrame s t [] ∧ MemFrame s t []
    ∧ t = { s with maclo := t.maclo, machi := t.machi, sr := t.sr, pc := t.pc, ppc := t.ppc, ds := t.ds }

/-- A load completes: rD is `v`, and nothing else changes but what translation changed and the record of the access. -/
def LoadResult (i : Instr) (s s' : State) (d : RegNo) (v : Word) : Prop :=
  ∃ t, exec i s = .next t ∧ t.reg d = v ∧ t.sr = s.sr ∧ GoesOn s t ∧ GprFrame s t [d] ∧ MemFrame s' t [] ∧ OnlyMmu s s'
    ∧ t = { s' with gpr := t.gpr, pc := t.pc, ppc := t.ppc, ds := t.ds, acc := t.acc }

/-- A store of `n` bytes of `v` completes: the bytes at `pas` are written, a reservation of a touched word is lost, and
nothing else changes but what translation changed and the record of the access. -/
def StoreResult (i : Instr) (s s' : State) (n : Nat) (v : Word) (pas : List Nat) : Prop :=
  ∃ t, exec i s = .next t ∧ t.sr = s.sr ∧ GoesOn s t ∧ GprFrame s t [] ∧ MemFrame s' t pas ∧ OnlyMmu s s'
    ∧ (pas.Nodup → ∀ j p, pas[j]? = some p → readByte t.mem p = operandByte s n v j)
    ∧ (∀ r, s'.resv = some r → t.resv = (if ∃ p ∈ pas, p / 4 = r / 4 then none else some r))
    ∧ (s'.resv = none → t.resv = none)
    ∧ t = { s' with mem := t.mem, resv := t.resv, acc := t.acc, pc := t.pc, ppc := t.ppc, ds := t.ds }

/-- A jump or branch completes: with delay slots its target waits, without them it is taken (R530). -/
def JumpResult (i : Instr) (s : State) (rs : List RegNo) (taken : Bool) (target : Word) : Prop :=
  ∃ t, exec i s = .next t ∧ t.sr = s.sr ∧ t.ppc = s.pc ∧ GprFrame s t rs ∧ MemFrame s t []
    ∧ (s.cfg.nd = false → t.pc = trunc s.cfg (s.pc + 4)
        ∧ t.ds = some (if taken then target else trunc s.cfg (s.pc + 8)))
    ∧ (s.cfg.nd = true → t.pc = (if taken then target else trunc s.cfg (s.pc + 4)) ∧ t.ds = none)
    ∧ t = { s with gpr := t.gpr, pc := t.pc, ppc := t.ppc, ds := t.ds }

/-- A single-precision result in rD. -/
def SingleValue (s t : State) (d : RegNo) (r : FpRes) : Prop :=
  t.reg d = (if s.cfg.xlen = .x64 then 0xFFFFFFFF#32 else 0#32) ++ BitVec.ofNat 32 r.bits

/-- A single-precision instruction completes (R602, R604). -/
def SingleResult (i : Instr) (s : State) (d : RegNo) (r : FpRes) : Prop :=
  FpResult i s [d] r.flags s.sr fun t => SingleValue s t d r

/-- A double-precision instruction completes with `v` in rD or its pair; the two registers of a pair differ (R603). -/
def DoubleResult (i : Instr) (s : State) (d : RegNo) (d2 : BitVec 1) (v : BitVec 64) (flags : Word32) : Prop :=
  FpResult i s (doubleRegs s.cfg d d2) flags s.sr fun t =>
    (s.cfg.xlen = .x64 → t.reg d = v) ∧
    (s.cfg.xlen = .x32 → t.reg d = (v.extractLsb' 32 32).setWidth 64 ∧
      t.reg (pairReg d d2) = (v.extractLsb' 0 32).setWidth 64)

/-- A vector instruction completes with byte elements that `P` describes. -/
def LanesB (i : Instr) (s : State) (d : RegNo) (P : Nat → BitVec 8 → Prop) : Prop :=
  ∃ v, RegResult i s d v s.sr ∧ ∀ k, k < 8 → P k (byteEl v k)

/-- A vector instruction completes with half-word elements that `P` describes. -/
def LanesH (i : Instr) (s : State) (d : RegNo) (P : Nat → BitVec 16 → Prop) : Prop :=
  ∃ v, RegResult i s d v s.sr ∧ ∀ k, k < 4 → P k (halfEl v k)

/-- A vector instruction completes with nibble elements that `P` describes. -/
def LanesN (i : Instr) (s : State) (d : RegNo) (P : Nat → BitVec 4 → Prop) : Prop :=
  ∃ v, RegResult i s d v s.sr ∧ ∀ k, k < 16 → P k (nibbleEl v k)

/-- The product that a signed accumulate step adds or subtracts: exact on XLEN = 32, its low 64 bits, read as signed, on
XLEN = 64 (R569). -/
def macProduct (c : Config) (x y : Word) : Int :=
  if c.xlen = .x64 then (BitVec.ofInt 64 (toS c x * toS c y)).toInt else toS c x * toS c y

/-- The product of an unsigned accumulate step, likewise (R569). -/
def macProductU (c : Config) (x y : Word) : Nat := toU c x * toU c y % 2 ^ 64

/-- `{MACHI, MACLO}` gets `v` and SR `w`, AESR gains the enabled causes, then the range exception is taken (R401, R883). -/
def MacTrap (i : Instr) (s : State) (v : BitVec 64) (w causes : Word32) : Prop :=
  ∃ u, exec i s = .next (enter .range s.pc none u) ∧ u.machi ++ u.maclo = v ∧ u.sr = w ∧ u.ppc = s.pc
    ∧ u.aesr = (if s.cfg.hasAecr then s.aesr ||| (s.aecr &&& causes) else s.aesr)
    ∧ u = { s with maclo := u.maclo, machi := u.machi, sr := u.sr, ppc := u.ppc, aesr := u.aesr }

/-- An accumulate step completes, or takes the range exception when one is due (R401, R569). -/
def MacOutcome (i : Instr) (s : State) (v : BitVec 64) (w causes : Word32) (ov : Bool) : Prop :=
  (rangeDue s causes ov = false → MacResult i s v w) ∧ (rangeDue s causes ov = true → MacTrap i s v w causes)

/-- A floating-point instruction that raises `flags` with the exception enabled: what `P` says is written, FPCSR gains the
flags and SR is `w`, then the floating-point exception is taken with the next instruction's address (R602, R885). -/
def FpTrap (i : Instr) (s : State) (rs : List RegNo) (flags w : Word32) (P : State → Prop) : Prop :=
  flags ≠ 0 →
    ∃ u, exec i s = .next (enter .floatingPoint (s.pc + 4) none u) ∧ P u ∧ u.fpcsr = s.fpcsr ||| flags ∧ u.sr = w
      ∧ u.ppc = s.pc ∧ GprFrame s u rs
      ∧ u = { s with gpr := u.gpr, sr := u.sr, fpcsr := u.fpcsr, ppc := u.ppc, fpmaddlo := u.fpmaddlo,
                     fpmaddhi := u.fpmaddhi, free := u.free }

/-- A double-precision result in rD or its pair (R603). -/
def DoubleValue (s t : State) (d : RegNo) (d2 : BitVec 1) (v : BitVec 64) : Prop :=
  (s.cfg.xlen = .x64 → t.reg d = v) ∧
  (s.cfg.xlen = .x32 → t.reg d = (v.extractLsb' 32 32).setWidth 64 ∧
    t.reg (pairReg d d2) = (v.extractLsb' 0 32).setWidth 64)

/-- FPMADDLO and FPMADDHI are unchanged, and no free value was drawn. -/
def NoFpmadd (s u : State) : Prop := u.fpmaddlo = s.fpmaddlo ∧ u.fpmaddhi = s.fpmaddhi ∧ u.free = s.free

/-- The set of a TLB that an address selects: its bits from 13 on, as many as NTS says (R262). -/
def setOf (g : MmuConfig) (ea : Word) : BitVec 7 := BitVec.ofNat 7 (ea.toNat / 2 ^ 13 % 2 ^ g.nts.toNat)

/-- Way `w` of the TLB hits an address on XLEN = 32: the way exists, its entry is valid, of the current context, and has
the address's page number at its page level (R263). -/
def TlbHit (s : State) (k : AccKind) (ea : Word) (w : BitVec 2) : Prop :=
  w.toNat ≤ (mmuConfig s.cfg k).ntw.toNat ∧
  ∀ mr, mr = (s.mmu k).tlbm.get (w ++ setOf (mmuConfig s.cfg k) ea) →
    mr.getLsbD 0 = true ∧ mr.toNat / 4 % 16 = s.cid.toNat ∧
    (mr.getLsbD 1 = false → mr.toNat / 2 ^ 13 = ea.toNat / 2 ^ 13 % 2 ^ 19) ∧
    (mr.getLsbD 1 = true → mr.toNat / 2 ^ 24 = ea.toNat / 2 ^ 24 % 2 ^ 8)

/-- Entry `e` of the ATB hits an address on XLEN = 32, where only 16 MByte pages exist (R267). -/
def AtbHit (s : State) (k : AccKind) (ea : Word) (e : BitVec 2) : Prop :=
  e.toNat < (mmuConfig s.cfg k).nae.toNat ∧
  ∀ mr, mr = (s.mmu k).atbm.get e →
    mr.getLsbD 0 = true ∧ mr.toNat / 2 % 16 = s.cid.toNat ∧ mr.getLsbD 5 = false ∧
    mr.toNat / 2 ^ 24 = ea.toNat / 2 ^ 24 % 2 ^ 8

/-- The bit of xMMUPR that lets group `x` make an access (R101, R103, R276). -/
def groupBit (k : AccKind) (sm : Bool) (x : Nat) : Nat :=
  match k with
  | .fetch => 2 * (x - 1) + (if sm then 0 else 1)
  | .load => 4 * (x - 1) + (if sm then 0 else 2)
  | .store => 4 * (x - 1) + (if sm then 1 else 3)

/-- A hardware walk on XLEN = 32 for context 0 ends at the PTE `p` of level `level`, of a frame below 4 GByte (R274, R275). -/
def WalkFinds (s : State) (k : AccKind) (ea : Word) (p : Word32) (level : Nat) : Prop :=
  ∀ p1, p1 = readPte s.mem ((s.mmu k).cr.toNat / 2 ^ 10 * 2 ^ 10 + 4 * (ea.toNat / 2 ^ 24 % 2 ^ 8)) →
    p1.toNat / 2 ^ 6 % 8 ≠ 0 ∧
    ((p1.getLsbD 9 = true ∧ p = p1 ∧ level = 1) ∨
     (p1.getLsbD 9 = false ∧ p1.toNat / 2 ^ 29 = 0 ∧ level = 2 ∧
      p = readPte s.mem (p1.toNat / 2 ^ 10 * 2 ^ 13 + 4 * (ea.toNat / 2 ^ 13 % 2 ^ 11)) ∧
      p.toNat / 2 ^ 6 % 8 ≠ 0 ∧ p.getLsbD 9 = true)) ∧
    p.toNat / 2 ^ 29 = 0

/-- A hardware walk on XLEN = 32 for context 0 finds no PTE: one it meets has PPI = 0, or a level 2 one is not last (R275). -/
def WalkFails (s : State) (k : AccKind) (ea : Word) : Prop :=
  ∀ p1, p1 = readPte s.mem ((s.mmu k).cr.toNat / 2 ^ 10 * 2 ^ 10 + 4 * (ea.toNat / 2 ^ 24 % 2 ^ 8)) →
    p1.toNat / 2 ^ 6 % 8 = 0 ∨
    (p1.getLsbD 9 = false ∧ p1.toNat / 2 ^ 29 = 0 ∧
     ∀ p, p = readPte s.mem (p1.toNat / 2 ^ 10 * 2 ^ 13 + 4 * (ea.toNat / 2 ^ 13 % 2 ^ 11)) →
      p.toNat / 2 ^ 6 % 8 = 0 ∨ p.getLsbD 9 = false)

/-- The quantity that DCR[CT] = `ct` observes of an instruction is `q` (R147). -/
def Observed (ct : Nat) (fetch : Word) (acc : Option Access) (q : Word) : Prop :=
  (ct = 1 ∧ q = fetch) ∨
  ∃ a, acc = some a ∧
    (((ct = 2 ∨ ct = 6) ∧ a.kind = .load ∧ q = a.ea) ∨ ((ct = 3 ∨ ct = 6) ∧ a.kind = .store ∧ q = a.ea) ∨
     ((ct = 4 ∨ ct = 7) ∧ a.kind = .load ∧ q = a.data) ∨ ((ct = 5 ∨ ct = 7) ∧ a.kind = .store ∧ q = a.data))

/-- The comparison of DCR[CC] = `cc`, the observed quantity on the left (R147). -/
def Compares (cc : Nat) (x y : Int) : Prop :=
  (cc = 1 ∧ x = y) ∨ (cc = 2 ∧ x < y) ∨ (cc = 3 ∧ x ≤ y) ∨ (cc = 4 ∧ x > y) ∨ (cc = 5 ∧ x ≥ y) ∨ (cc = 6 ∧ x ≠ y)

/-- The level of interrupt line `n`: the input's, or on the line the OMPIC drives its request for this core (R182, R913). -/
def lineLevel (s : State) (n : Nat) : Bool :=
  match s.cfg.ompic with
  | none => s.irqIn.getLsbD n
  | some o => if n = o.irq.toNat then (ompicSlot s s.cfg.coreId).pend else s.irqIn.getLsbD n

/-- What every step keeps. -/
structure State.Inv (s : State) : Prop where
  /-- Memory is in its canonical form. -/
  mem : Memory.wf s.mem = true
  /-- The OMPIC's slots are in canonical form. -/
  ompic : sparseWf emptySlot s.ompic = true
  /-- SR: FO is 1, and the bits of absent functions and the reserved ones are 0 (R36). -/
  sr : legalSr s.cfg s.sr = s.sr
  /-- The pc is an XLEN-bit address. -/
  pc : trunc s.cfg s.pc = s.pc
  /-- PPC is an XLEN-bit address. -/
  ppc : trunc s.cfg s.ppc = s.ppc
  /-- A pending delay-slot target is an XLEN-bit address. -/
  ds : ∀ a, s.ds = some a → trunc s.cfg a = a
  /-- Without delay slots no target is ever pending (R29, R530). -/
  noSlot : s.cfg.nd = true → s.ds = none
  /-- EVBAR bits 12-0 are 0 (R59). -/
  evbar : s.evbar &&& 0x1FFF = 0
  /-- AECR bits 31-7 are 0 (R60). -/
  aecr : s.aecr &&& 0xFFFFFF80 = 0
  /-- AESR bits 31-7 are 0 (R61). -/
  aesr : s.aesr &&& 0xFFFFFF80 = 0
  /-- FPCSR bits 31-12 are 0 (R45). -/
  fpcsr : s.fpcsr &&& 0xFFFFF000 = 0
  /-- PMR bits 31-8 are 0 (R170). -/
  pmr : s.pmr &&& 0xFFFFFF00 = 0
  /-- The fixed bits of PICMR are 1 (R180). -/
  picmr : s.cfg.picFixed &&& 3 &&& ~~~s.picmr = 0

/-- A translate register after accesses through its entry: unchanged but for A, and for D after a store (R269). -/
def TrMarked (tr tr' : Word32) : Prop := tr' = tr ∨ tr' = tr ||| 0x10 ∨ tr' = tr ||| 0x30

/-- What data accesses of context `cid` leave of an MMU: everything but the A and D bits of entries, and with a hardware
walk the entries it installed, which are valid and of that context (R269, R275). -/
structure MmuKept (htr : Bool) (cid : BitVec 4) (m m' : MmuRegs) : Prop where
  /-- The control register. -/
  cr : m'.cr = m.cr
  /-- The protection register. -/
  pr : m'.pr = m.pr
  /-- The TLB's entries. -/
  tlb : ∀ i, (m'.tlbm.get i = m.tlbm.get i ∧ TrMarked (m.tlbt.get i) (m'.tlbt.get i)) ∨
    (htr = true ∧ (m'.tlbm.get i).getLsbD 0 = true ∧ (m'.tlbm.get i).extractLsb' 2 4 = cid)
  /-- The ATB's entries. -/
  atb : ∀ i, (m'.atbm.get i = m.atbm.get i ∧ TrMarked (m.atbt.get i) (m'.atbt.get i)) ∨
    (htr = true ∧ (m'.atbm.get i).getLsbD 0 = true ∧ (m'.atbm.get i).extractLsb' 1 4 = cid)

/-- What a user-mode instruction that takes no exception cannot change (R32, R34, R901): every register of Table 4-2
without user write access but PPC and NPC, which follow the program; the other contexts' general registers; the bits of SR
but the three flags; and whether the core runs. -/
structure Confined (s t : State) : Prop where
  /-- SR but F, CY and OV. -/
  sr : t.sr &&& 0xFFFFF1FF = s.sr &&& 0xFFFFF1FF
  /-- EPCR. -/
  epcr : t.epcr = s.epcr
  /-- EEAR. -/
  eear : t.eear = s.eear
  /-- ESR. -/
  esr : t.esr = s.esr
  /-- EVBAR. -/
  evbar : t.evbar = s.evbar
  /-- AECR. -/
  aecr : t.aecr = s.aecr
  /-- AESR. -/
  aesr : t.aesr = s.aesr
  /-- The data MMU. -/
  dmmu : MmuKept s.cfg.dmmu.htr s.cid s.dmmu t.dmmu
  /-- The instruction MMU. -/
  immu : t.immu = s.immu
  /-- The cache control registers. -/
  caches : t.dccr = s.dccr ∧ t.iccr = s.iccr
  /-- The debug unit. -/
  dbg : t.dbg = s.dbg
  /-- The performance counters. -/
  counters : t.pccr = s.pccr ∧ t.pcmr = s.pcmr
  /-- Power management and the core's status. -/
  power : t.pmr = s.pmr ∧ t.status = s.status
  /-- The interrupt controller. -/
  pic : t.picmr = s.picmr ∧ t.picLatch = s.picLatch
  /-- The tick timer. -/
  timer : t.ttmr = s.ttmr ∧ t.ttcr = s.ttcr
  /-- The implementation parameters. -/
  cfg : t.cfg = s.cfg
  /-- The general registers of the other contexts. -/
  contexts : ∀ (c : BitVec 4) (r : RegNo), c ≠ s.ctx → t.gpr.get (gprIndex c r) = s.gpr.get (gprIndex c r)

/-- An access right of Table 4-2 (R34). -/
inductive SprRight where
  /-- `-`. -/
  | none
  /-- `R`. -/
  | r
  /-- `R*`: readable with SR[SUMRA]. -/
  | rStar
  /-- `W`. -/
  | w
  /-- `R/W`, and `R/W*` of the accumulators. -/
  | rw
deriving DecidableEq, Repr

/-- The right lets a register be read, given SR[SUMRA]. -/
def SprRight.reads (sumra : Bool) : SprRight → Bool
  | .none | .w => false
  | .r | .rw => true
  | .rStar => sumra

/-- The right lets a register be written. -/
def SprRight.writes : SprRight → Bool
  | .none | .r | .rStar => false
  | .w | .rw => true

/-- A row of Table 4-2: `count` registers from an address on, and who may use them. -/
structure SprRow where
  /-- The first address. -/
  base : Nat
  /-- How many registers. -/
  count : Nat
  /-- The right in user mode. -/
  user : SprRight
  /-- The right in supervisor mode. -/
  supv : SprRight
  /-- The register at an offset. -/
  reg : Nat → Spr

/-- Group 0 of Table 4-2 (R34). -/
def sprTableSystem : List SprRow :=
  [⟨0x0000, 1, .none, .r, fun _ => .vr⟩, ⟨0x0001, 1, .none, .r, fun _ => .upr⟩, ⟨0x0002, 1, .none, .r, fun _ => .cpucfgr⟩,
   ⟨0x0003, 1, .none, .r, fun _ => .dmmucfgr⟩, ⟨0x0004, 1, .none, .r, fun _ => .immucfgr⟩,
   ⟨0x0005, 1, .none, .r, fun _ => .dccfgr⟩, ⟨0x0006, 1, .none, .r, fun _ => .iccfgr⟩, ⟨0x0007, 1, .none, .r, fun _ => .dcfgr⟩,
   ⟨0x0008, 1, .none, .r, fun _ => .pccfgr⟩, ⟨0x0009, 1, .none, .r, fun _ => .vr2⟩, ⟨0x000A, 1, .none, .r, fun _ => .avr⟩,
   ⟨0x000B, 1, .none, .rw, fun _ => .evbar⟩, ⟨0x000C, 1, .none, .rw, fun _ => .aecr⟩, ⟨0x000D, 1, .none, .rw, fun _ => .aesr⟩,
   ⟨0x0010, 1, .none, .rw, fun _ => .npc⟩, ⟨0x0011, 1, .none, .rw, fun _ => .sr⟩, ⟨0x0012, 1, .none, .r, fun _ => .ppc⟩,
   ⟨0x0014, 1, .rw, .rw, fun _ => .fpcsr⟩, ⟨0x0015, 8, .none, .r, fun n => .isr (BitVec.ofNat 3 n)⟩,
   ⟨0x0020, 16, .none, .rw, fun n => .epcr (BitVec.ofNat 4 n)⟩, ⟨0x0030, 16, .none, .rw, fun n => .eear (BitVec.ofNat 4 n)⟩,
   ⟨0x0040, 16, .none, .rw, fun n => .esr (BitVec.ofNat 4 n)⟩, ⟨0x0080, 1, .none, .r, fun _ => .coreid⟩,
   ⟨0x0081, 1, .none, .r, fun _ => .numcores⟩, ⟨0x0400, 512, .none, .rw, fun n => .gpr (BitVec.ofNat 9 n)⟩]

/-- Group 1 or 2 of Table 4-2, from address `b` on (R34). -/
def sprTableMmu (b : Nat) (k : AccKind) : List SprRow :=
  [⟨b, 1, .none, .rw, fun _ => .mmucr k⟩, ⟨b + 1, 1, .none, .rw, fun _ => .mmupr k⟩, ⟨b + 2, 1, .none, .w, fun _ => .tlbeir k⟩,
   ⟨b + 4, 4, .none, .rw, fun n => .atbmr k (BitVec.ofNat 2 n)⟩, ⟨b + 8, 4, .none, .rw, fun n => .atbtr k (BitVec.ofNat 2 n)⟩,
   ⟨b + 0x200, 128, .none, .rw, fun n => .tlbmr k (tlbIndex 0 (BitVec.ofNat 7 n))⟩,
   ⟨b + 0x280, 128, .none, .rw, fun n => .tlbtr k (tlbIndex 0 (BitVec.ofNat 7 n))⟩,
   ⟨b + 0x300, 128, .none, .rw, fun n => .tlbmr k (tlbIndex 1 (BitVec.ofNat 7 n))⟩,
   ⟨b + 0x380, 128, .none, .rw, fun n => .tlbtr k (tlbIndex 1 (BitVec.ofNat 7 n))⟩,
   ⟨b + 0x400, 128, .none, .rw, fun n => .tlbmr k (tlbIndex 2 (BitVec.ofNat 7 n))⟩,
   ⟨b + 0x480, 128, .none, .rw, fun n => .tlbtr k (tlbIndex 2 (BitVec.ofNat 7 n))⟩,
   ⟨b + 0x500, 128, .none, .rw, fun n => .tlbmr k (tlbIndex 3 (BitVec.ofNat 7 n))⟩,
   ⟨b + 0x580, 128, .none, .rw, fun n => .tlbtr k (tlbIndex 3 (BitVec.ofNat 7 n))⟩]

/-- Groups 3 to 10 of Table 4-2 (R34). -/
def sprTableUnits : List SprRow :=
  [⟨0x1800, 1, .none, .rw, fun _ => .dccr⟩, ⟨0x1801, 1, .w, .w, fun _ => .cacheBlock .dcbpr⟩,
   ⟨0x1802, 1, .w, .w, fun _ => .cacheBlock .dcbfr⟩, ⟨0x1803, 1, .none, .w, fun _ => .cacheBlock .dcbir⟩,
   ⟨0x1804, 1, .w, .w, fun _ => .cacheBlock .dcbwr⟩, ⟨0x1805, 1, .w, .w, fun _ => .cacheBlock .dcblr⟩,
   ⟨0x2000, 1, .none, .rw, fun _ => .iccr⟩, ⟨0x2001, 1, .w, .w, fun _ => .cacheBlock .icbpr⟩,
   ⟨0x2002, 1, .w, .w, fun _ => .cacheBlock .icbir⟩, ⟨0x2003, 1, .w, .w, fun _ => .cacheBlock .icblr⟩,
   ⟨0x2801, 1, .rw, .rw, fun _ => .maclo⟩, ⟨0x2802, 1, .rw, .rw, fun _ => .machi⟩, ⟨0x2803, 1, .rw, .rw, fun _ => .fpmaddlo⟩,
   ⟨0x2804, 1, .rw, .rw, fun _ => .fpmaddhi⟩, ⟨0x2805, 1, .rw, .rw, fun _ => .vmaclo⟩, ⟨0x2806, 1, .rw, .rw, fun _ => .vmachi⟩,
   ⟨0x3000, 8, .none, .rw, fun n => .dvr (BitVec.ofNat 3 n)⟩, ⟨0x3008, 8, .none, .rw, fun n => .dcr (BitVec.ofNat 3 n)⟩,
   ⟨0x3010, 1, .none, .rw, fun _ => .dmr1⟩, ⟨0x3011, 1, .none, .rw, fun _ => .dmr2⟩, ⟨0x3012, 1, .none, .rw, fun _ => .dwcr0⟩,
   ⟨0x3013, 1, .none, .rw, fun _ => .dwcr1⟩, ⟨0x3014, 1, .none, .rw, fun _ => .dsr⟩, ⟨0x3015, 1, .none, .rw, fun _ => .drr⟩,
   ⟨0x3800, 8, .rStar, .rw, fun n => .pccr (BitVec.ofNat 3 n)⟩, ⟨0x3808, 8, .none, .rw, fun n => .pcmr (BitVec.ofNat 3 n)⟩,
   ⟨0x4000, 1, .none, .rw, fun _ => .pmr⟩, ⟨0x4800, 1, .none, .rw, fun _ => .picmr⟩, ⟨0x4802, 1, .none, .rw, fun _ => .picsr⟩,
   ⟨0x5000, 1, .none, .rw, fun _ => .ttmr⟩, ⟨0x5001, 1, .rStar, .rw, fun _ => .ttcr⟩]

/-- Table 4-2 (R34). -/
def sprTable : List SprRow := sprTableSystem ++ sprTableMmu 0x0800 .load ++ sprTableMmu 0x1000 .fetch ++ sprTableUnits

end Sys2Proof.Machine
end

