-- ==== Sys2Proof/Certificates/Slice0/Obligations.lean ====
section
/-! DEFINITION. The statements for the provers. Each rests on the rules it names; the terms are those of `Safety.lean`. -/

open Sys2Proof Sys2Proof.Machine

/-- Decoding the bytes of an encoded instruction gives it back, for every instruction and every operand value (the
encodings of `spec/30_encoding.md`). -/
def Obligations.EncodeDecodeRoundTrip : Prop :=
  ∀ i : Instr, decode (bytesOfWord (encode i)) = .ok i

/-- Words written out in the spec's own vectors decode to the instructions they stand for. -/
def Obligations.DecodeSampleWords : Prop :=
  decodeWord 0xE0642800#32 = .ok (.lAdd 3 4 5) ∧
  decodeWord 0x9C64FFFF#32 = .ok (.lAddi 3 4 0xFFFF) ∧
  decodeWord 0xE4042800#32 = .ok (.lSfeq 4 5) ∧
  decodeWord 0xBC04FFFF#32 = .ok (.lSfeqi 4 0xFFFF) ∧
  decodeWord 0x84640002#32 = .ok (.lLwz 3 4 2) ∧
  decodeWord 0xD7E42800#32 = .ok (.lSw 4 5 0xF800) ∧
  decodeWord 0x03FFFFFE#32 = .ok (.lJ 0x3FFFFFE) ∧
  decodeWord 0x44002800#32 = .ok (.lJr 5) ∧
  decodeWord 0xC0002811#32 = .ok (.lMtspr 0 5 0x11) ∧
  decodeWord 0x24000000#32 = .ok (.lRfe) ∧
  decodeWord 0xC4042801#32 = .ok (.lMac 4 5) ∧
  decodeWord 0xC8642800#32 = .ok (.lfAddS 3 4 5) ∧
  decodeWord 0xCA14C710#32 = .ok (.lfAddD 16 20 24 1 1 1) ∧
  decodeWord 0x28642830#32 = .ok (.lvAddB 3 4 5) ∧
  decodeWord 0x2864284B#32 = .ok (.lvCmpNeH 3 4 5)

/-- One step of a running core with nothing pending runs the instruction its fetch decodes to (R901 steps 7 and 8): before
it the performance counters count the fetch and the debug unit looks for a breakpoint, after it `finishInstr` counts
its events and lets the debug unit look at it. -/
def Obligations.StepRunsInstruction : Prop :=
  ∀ (s s' : State) (w : Word32) (i : Instr),
    resetAsserted s = false → (beginStep s).status = .running → pendingEntry (beginStep s) = none →
    fetchWord (beginStep s) = .ok w s' → decodeWord w = .ok i →
    breakpoints (debugBefore (countEvent 6 s'.sm 1 s')).2 (debugBefore (countEvent 6 s'.sm 1 s')).1 = 0 →
    step s =
      match exec i (debugBefore (countEvent 6 s'.sm 1 s')).2 with
      | .next t =>
        .next (finishInstr i (debugBefore (countEvent 6 s'.sm 1 s')).1 (debugBefore (countEvent 6 s'.sm 1 s')).2.pc
          (debugBefore (countEvent 6 s'.sm 1 s')).2.sm t)
      | .fault f => .fault f
      | .refused r => .refused r

/-- On a core without debug unit and performance counters, fetching untranslated: when the four bytes at the pc decode to
an instruction, the step is `exec` of it (R216, R901). -/
def Obligations.PlainStepRunsBytes : Prop :=
  ∀ (s u : State) (i : Instr),
    beginStep s = u → resetAsserted s = false → u.status = .running → pendingEntry u = none → u.cfg.hasDu = false →
    u.cfg.hasPcu = false → u.translated .fetch = false → aligned (trunc u.cfg u.pc) 4 = true →
    (∀ j, j < 4 → validPa u.cfg .fetch (plainPa u u.pc + j) = true ∧ inOmpic u.cfg (plainPa u u.pc + j) = false) →
    decode ((List.range 4).map fun j => readByte u.mem (plainPa u u.pc + j)) = .ok i →
    step s = exec i u

/-- A fetched word that is no instruction takes the illegal instruction exception, EPCR and EEAR its address (R320, R880);
a fetch that raises an exception takes it with EEAR the pc (R216). On a core without debug unit and performance
counters. -/
def Obligations.UndecodedWordIllegal : Prop :=
  ∀ (s u : State),
    beginStep s = u → resetAsserted s = false → u.status = .running → pendingEntry u = none → u.cfg.hasDu = false →
    u.cfg.hasPcu = false →
    (∀ w x s', fetchWord u = .ok w s' → decodeWord w = .error x →
      step s = .next (enter .illegal s'.pc (some s'.pc) s')) ∧
    (∀ e s', fetchWord u = .exc e s' → step s = .next (enter e s'.pc (some (trunc s'.cfg s'.pc)) s'))

/-- What is taken before the next instruction: the tick timer, else the external interrupt, else a pending debug trap
(R901 steps 4 to 6; the timer first is decision D10). That a pending debug trap stays pending while one of the two is
taken first is the model's choice (log 27). -/
def Obligations.PendingExceptionOrder : Prop :=
  ∀ (s u : State), beginStep s = u → resetAsserted s = false → u.status = .running →
    (timerRequest u = true → u.tee = true → step s = .next (enter .tickTimer u.pc none u)) ∧
    ((timerRequest u && u.tee) = false → irqRequest u = true → u.iee = true →
      step s = .next (enter .external u.pc none u)) ∧
    ((timerRequest u && u.tee) = false → (irqRequest u && u.iee) = false → u.dbgPending = true →
      step s = .next { enter .trap u.pc none u with dbgPending := false })

/-- A core that is in doze, sleep or suspend mode or stopped executes nothing: every register of the core is unchanged
but, in doze mode, the tick timer, and what the environment does from outside (R171, R901 steps 1 and 3); doze and
sleep end when the timer or an interrupt requests, masked or not, and DME and SME are cleared (R171, R897, D25);
suspend mode and the stopped state last until reset. -/
def Obligations.IdleCoreExecutesNothing : Prop :=
  ∀ s : State, resetAsserted s = false →
    ((beginStep s).status ≠ .running →
      ∃ t, step s = .next t
        ∧ t = { s with ttmr := t.ttmr, ttcr := t.ttcr, pccr := t.pccr, picLatch := t.picLatch, irqIn := t.irqIn,
                       irqSeen := t.irqSeen, extWp := t.extWp, mem := t.mem, resv := t.resv, ompic := t.ompic,
                       env := t.env, free := t.free, acc := none, exc := none }
        ∧ (s.status ≠ .doze → t.ttmr = s.ttmr ∧ t.ttcr = s.ttcr)
        ∧ (s.env = [] → t.pccr = s.pccr ∧ t.mem = s.mem ∧ t.resv = s.resv ∧ t.ompic = s.ompic ∧ t.irqIn = s.irqIn)
        ∧ (∀ e rest, s.env = e :: rest →
            t.env = rest ∧ t.irqIn = e.irq
            ∧ (Memory.wf s.mem = true → ∀ a, (∀ w ∈ e.writes, w.1 ≠ a) → readByte t.mem a = readByte s.mem a)
            ∧ (e.writes = [] → e.ompicWrites = [] → t.resv = s.resv)
            ∧ (e.ompicWrites = [] → t.ompic = s.ompic)
            ∧ (e.events = { dds := 0, bs := 0, lsus := 0, ifs := 0, icm := 0, dcm := 0 } → t.pccr = s.pccr))) ∧
    (s.status = .doze ∨ s.status = .sleep → ∀ u, u = envStep s →
      (beginStep s).status = (if timerRequest u || irqRequest u then .running else s.status)
      ∧ (beginStep s).pmr = (if timerRequest u || irqRequest u then s.pmr &&& 0xFFFFFFCF else s.pmr)
      ∧ beginStep s = { u with status := (beginStep s).status, pmr := (beginStep s).pmr, acc := none, exc := none }) ∧
    (s.status = .suspend ∨ s.status = .stopped → (beginStep s).status = s.status)

/-- An asserted reset line gives every register for which the spec states a reset value that value, and leaves memory
(R68, R875, R930). -/
def Obligations.ResetEventValues : Prop :=
  ∀ s : State, resetAsserted s = true →
    ∃ t, step s = .next t ∧ t.cfg = s.cfg
      ∧ t.pc = 0x100 ||| (if s.cfg.hasEvbar then (s.cfg.evbarReset &&& 0xFFFFE000).setWidth 64 else 0)
      ∧ t.sr = 0x00008001 ∧ t.ds = none ∧ t.resv = none ∧ t.status = .running
      ∧ (∀ n, t.epcr.get n = 0 ∧ t.eear.get n = 0 ∧ t.esr.get n = 0)
      ∧ t.evbar = s.cfg.evbarReset &&& 0xFFFFE000 ∧ t.aecr = 0 ∧ t.aesr = 0 ∧ t.fpcsr = 0
      ∧ (∀ m ∈ [t.dmmu, t.immu], m.cr = 0 ∧ m.pr = 0 ∧ (∀ i, m.tlbm.get i &&& 0xC3 = 0) ∧ (∀ i, m.atbm.get i &&& 0x3F = 0))
      ∧ t.dccr = 0 ∧ t.iccr = 0
      ∧ (∀ n, t.dbg.dvr.get n = 0 ∧ t.dbg.dcr.get n = 0)
      ∧ t.dbg.dmr1 = 0 ∧ t.dbg.dmr2 = 0 ∧ t.dbg.dwcr0 = 0 ∧ t.dbg.dwcr1 = 0 ∧ t.dbg.dsr = 0 ∧ t.dbg.drr = 0
      ∧ t.dbgPending = false
      ∧ (∀ n, t.pccr.get n = 0 ∧ readReg t (.pcmr n) = 1) ∧ t.pmr = 0
      ∧ t.picmr = s.cfg.picFixed &&& 3 ∧ t.picLatch = 0
      ∧ t.ttcr = 0 ∧ t.ttmr.extractLsb' 28 4 = 0
      ∧ t.mem = (envStep s).mem

/-- The machine right after reset, on the default configuration: the values the spec gives. -/
def Obligations.ResetStateValues : Prop :=
  State.reset.pc = 0x100 ∧ State.reset.sr = 0x00008001 ∧ State.reset.ds = none ∧ State.reset.resv = none
    ∧ State.reset.fpcsr = 0 ∧ State.reset.evbar = 0 ∧ State.reset.aecr = 0 ∧ State.reset.aesr = 0
    ∧ (∀ n, State.reset.epcr.get n = 0 ∧ State.reset.eear.get n = 0 ∧ State.reset.esr.get n = 0)
    ∧ State.reset.dmmu.cr = 0 ∧ State.reset.immu.cr = 0 ∧ State.reset.dccr = 0 ∧ State.reset.iccr = 0
    ∧ State.reset.dbg.dmr1 = 0 ∧ State.reset.dbg.dmr2 = 0 ∧ State.reset.dbg.dsr = 0 ∧ State.reset.dbg.drr = 0
    ∧ State.reset.pmr = 0 ∧ State.reset.picmr = 0 ∧ State.reset.ttcr = 0 ∧ State.reset.ttmr.extractLsb' 28 4 = 0

/-- The invariant holds right after reset, for every configuration. -/
def Obligations.InvariantAtReset : Prop :=
  ∀ c : Config, (State.resetOf c).Inv

/-- Every step from a state that meets the invariant gives a state that meets it, and no step changes the configuration. -/
def Obligations.InvariantKeptByStep : Prop :=
  ∀ s t : State, s.Inv → step s = .next t → t.Inv ∧ t.cfg = s.cfg

/-- Table 4-2 (R34): which register each address of the special-purpose register space names, who may read and write it,
and that a register of a unit is there only if UPR shows the unit (R31, R51); and an instruction that runs in user
mode and takes no exception leaves the machine in user mode and changes nothing that user mode may not write (R32,
R901). -/
def Obligations.UserModeConfined : Prop :=
  (∀ row ∈ sprTable, ∀ j, j < row.count → ∀ r, r = row.reg j →
    sprAt (BitVec.ofNat 16 (row.base + j)) = some r ∧
    (∀ sumra, sprReadable true sumra r = row.supv.reads true ∧ sprReadable false sumra r = row.user.reads sumra) ∧
    sprWritable true r = row.supv.writes ∧ sprWritable false r = row.user.writes) ∧
  (∀ a : BitVec 16, (∀ row ∈ sprTable, ¬(row.base ≤ a.toNat ∧ a.toNat < row.base + row.count)) → sprAt a = none) ∧
  (∀ (c : Config) (a : BitVec 16) (r : Spr), sprAt a = some r → sprPresent c r = true →
    ∀ p ∈ ([(1, 3), (2, 4), (3, 1), (4, 2), (6, 6), (7, 7), (8, 9), (9, 8), (10, 10)] : List (Nat × Nat)),
      a.toNat / 2 ^ 11 = p.1 → (uprValue c).getLsbD p.2 = true) ∧
  (∀ (c : Config) (p : Spr × Nat),
    p ∈ [(Spr.maclo, 5), (.machi, 5), (.dmr1, 6), (.dmr2, 6), (.dsr, 6), (.drr, 6), (.pmr, 9), (.picmr, 8), (.picsr, 8),
      (.ttmr, 10), (.ttcr, 10)] →
    sprPresent c p.1 = (uprValue c).getLsbD p.2) ∧
  (∀ (i : Instr) (s t : State), s.sm = false → exec i s = .next t → t.exc = none → t.sm = false ∧ Confined s t)

/-- Taking an exception that the debug unit does not divert, with a context to enter: what is saved, what SR becomes, what
is lost, and that nothing else changes (R860, R862). That bits 63-32 of the ESR are zero on XLEN = 64 is the model's
choice (log 48). -/
def Obligations.ExceptionEntryState : Prop :=
  ∀ (e : Exc) (a : Word) (ea : Option Word) (s : State), s.diverts e = false → s.outOfContexts = false →
    ∃ n : BitVec 4, n = (if s.fastCtx then s.cid + 1 else 0) ∧
    ∃ t, enter e a ea s = t
      ∧ t.esr.get n = s.sr.setWidth 64
      ∧ t.epcr.get n = trunc s.cfg (if s.ds.isSome then s.pc - 4 else a)
      ∧ (∀ x, ea = some x → t.eear.get n = trunc s.cfg x) ∧ (ea = none → t.eear = s.eear)
      ∧ (∀ m, m ≠ n → t.esr.get m = s.esr.get m ∧ t.epcr.get m = s.epcr.get m ∧ t.eear.get m = s.eear.get m)
      ∧ t.sm = true ∧ t.tee = false ∧ t.iee = false ∧ t.dme = false ∧ t.ime = false
      ∧ t.sr.getLsbD 13 = s.ds.isSome
      ∧ t.sr &&& 0x0FFFDF98 = s.sr &&& 0x0FFFDF98
      ∧ t.cid = (if s.fastCtx then n else s.cid)
      ∧ t.resv = none ∧ t.ds = none ∧ t.pc = vectorAddr s (excNumber e)
      ∧ t = { s with esr := t.esr, epcr := t.epcr, eear := t.eear, sr := t.sr, resv := t.resv, ds := t.ds, pc := t.pc,
                     exc := t.exc }

/-- The handler's address: EPH prefix, EVBAR and the offset of Table 6-2, ORed (R851, R861). -/
def Obligations.VectorOffsets : Prop :=
  ∀ (a : Word) (ea : Option Word) (s : State), s.outOfContexts = false →
    ∀ p ∈ ([(.reset, 0x100), (.busError, 0x200), (.dataPageFault, 0x300), (.insnPageFault, 0x400), (.tickTimer, 0x500),
        (.alignment, 0x600), (.illegal, 0x700), (.external, 0x800), (.dtlbMiss, 0x900), (.itlbMiss, 0xA00),
        (.range, 0xB00), (.systemCall, 0xC00), (.floatingPoint, 0xD00), (.trap, 0xE00)] : List (Exc × Word)),
      s.diverts p.1 = false →
      (enter p.1 a ea s).pc =
        (if s.eph then 0xF0000000 else 0) ||| (if s.cfg.hasEvbar then (s.evbar &&& 0xFFFFE000).setWidth 64 else 0)
          ||| p.2

/-- An exception whose DSR bit is set stops the core and sets its DRR bit, and does nothing else (R895); with no context
left the range exception is taken in the exception's place, in the current context, and EEAR is unchanged (R872, D53;
for a SR[CID] above NSGF that is log 46, and that bits 63-32 of the ESR are zero on XLEN = 64 log 48, both choices of
the model). The debug unit: when a pair matches (R147), how watchpoints chain (R142), what the counters count (R148),
and when a breakpoint, single-step or branch trace traps (R148, R149, D24; what is read before and what after the
instruction is log 22). -/
def Obligations.DebugUnitAndEntryDiversions : Prop :=
  ∀ s : State,
    (∀ (e : Exc) (a : Word) (ea : Option Word), s.diverts e = true →
      ∃ drr, enter e a ea s = { s with dbg := { s.dbg with drr := drr }, status := .stopped, exc := some e }
        ∧ ∀ n, drr.getLsbD n = (s.dbg.drr.getLsbD n || decide (n = excNumber e - 1))) ∧
    (∀ (e : Exc) (a : Word) (ea : Option Word), s.diverts e = false → s.outOfContexts = true →
      ∃ t, enter e a ea s = t ∧ t.pc = vectorAddr s 11
        ∧ t.esr.get s.cid = s.sr.setWidth 64 ∧ t.epcr.get s.cid = trunc s.cfg (if s.ds.isSome then s.pc - 4 else a)
        ∧ (∀ m, m ≠ s.cid → t.esr.get m = s.esr.get m ∧ t.epcr.get m = s.epcr.get m)
        ∧ t.sm = true ∧ t.tee = false ∧ t.iee = false ∧ t.dme = false ∧ t.ime = false ∧ t.sr.getLsbD 13 = s.ds.isSome
        ∧ t.sr &&& 0xFFFFDF98 = s.sr &&& 0xFFFFDF98 ∧ t.resv = none ∧ t.ds = none
        ∧ t = { s with esr := t.esr, epcr := t.epcr, sr := t.sr, resv := t.resv, ds := t.ds, pc := t.pc, exc := t.exc }) ∧
    (∀ (fetch : Word) (acc : Option Access) (i : BitVec 3) (d : Word32) (ct cc : Nat), i.toNat ≤ s.cfg.ndp.toNat →
      (∀ a, acc = some a → a.kind ≠ .fetch) → d = s.dbg.dcr.get i → ct = d.toNat / 2 ^ 5 % 8 → cc = d.toNat / 2 % 8 →
      (∀ q, Observed ct fetch acc q →
        (debugMatch s fetch acc i = true ↔
          if d.getLsbD 4 = true then Compares cc (toS s.cfg q) (s.dbg.dvr.get i).toInt
          else Compares cc (toU s.cfg q) (s.dbg.dvr.get i).toNat)) ∧
      ((∀ q, ¬Observed ct fetch acc q) → debugMatch s fetch acc i = false)) ∧
    (∀ (fetch : Word) (acc : Option Access) (n sel : Nat) (m x : Bool), n < 8 → sel = s.dbg.dmr1.toNat / 4 ^ n % 4 →
      m = debugMatch s fetch acc (BitVec.ofNat 3 n) →
      x = (if n = 0 ∨ n = 4 then s.extWp else (watchpoints s fetch acc).getLsbD (n - 1)) →
      (watchpoints s fetch acc).getLsbD n =
        if sel = 0 then m else if sel = 1 then m && x else if sel = 2 then m || x else false) ∧
    (∀ (fired : BitVec 10) (t : State), t = countWatchpoints s fired →
      t = { s with dbg := { s.dbg with dwcr0 := t.dbg.dwcr0, dwcr1 := t.dbg.dwcr1 } }
      ∧ t.dbg.dwcr0.toNat / 2 ^ 16 = s.dbg.dwcr0.toNat / 2 ^ 16 ∧ t.dbg.dwcr1.toNat / 2 ^ 16 = s.dbg.dwcr1.toNat / 2 ^ 16
      ∧ t.dbg.dwcr0.toNat % 2 ^ 16 = (s.dbg.dwcr0.toNat + (if s.cfg.wpci && s.dbg.dmr2.getLsbD 0 then
          ((List.range 10).filter fun n => fired.getLsbD n && !s.dbg.dmr2.getLsbD (2 + n)).length else 0)) % 2 ^ 16
      ∧ t.dbg.dwcr1.toNat % 2 ^ 16 = (s.dbg.dwcr1.toNat + (if s.cfg.wpci && s.dbg.dmr2.getLsbD 1 then
          ((List.range 10).filter fun n => fired.getLsbD n && s.dbg.dmr2.getLsbD (2 + n)).length else 0)) % 2 ^ 16) ∧
    (∀ (u s' : State) (w : Word32) (n : Nat), beginStep s = u → resetAsserted s = false → u.status = .running →
      pendingEntry u = none → u.cfg.hasPcu = false → u.cfg.hasDu = true → fetchWord u = .ok w s' → n < 8 →
      (watchpoints s' (trunc s'.cfg s'.pc) none).getLsbD n = true → s'.dbg.dmr2.getLsbD (12 + n) = true →
      ∃ v, step s = .next (enter .trap s'.pc none v) ∧ v.dbg.dmr2.getLsbD (22 + n) = true ∧ v = { s' with dbg := v.dbg }) ∧
    (∀ (u s' : State) (w : Word32) (n : Nat), beginStep s = u → resetAsserted s = false → u.status = .running →
      pendingEntry u = none → u.cfg.hasPcu = false → u.cfg.hasDu = true → fetchWord u = .ok w s' → n = 8 ∨ n = 9 →
      FetchFires s' (watchpoints s' (trunc s'.cfg s'.pc) none) n → s'.dbg.dmr2.getLsbD (12 + n) = true →
      ∃ v, step s = .next (enter .trap s'.pc none v) ∧ v.dbg.dmr2.getLsbD (22 + n) = true ∧ v = { s' with dbg := v.dbg }) ∧
    (∀ (i : Instr) (pre fired : BitVec 10) (pc : Word) (sm : Bool) (t : State), s.cfg.hasDu = true → s.exc = none →
      t = finishInstr i pre pc sm s → fired = (watchpoints s pc s.acc).setWidth 10 &&& ~~~pre →
      t = { s with dbg := t.dbg, pccr := t.pccr, dbgPending := t.dbgPending }
      ∧ (s.dbg.dmr1.getLsbD 22 = true → t.dbgPending = true)
      ∧ (s.dbg.dmr1.getLsbD 23 = true → isBranch i = true → t.dbgPending = true)
      ∧ (∀ n, n < 8 → fired.getLsbD n = true → s.dbg.dmr2.getLsbD (12 + n) = true →
          t.dbgPending = true ∧ t.dbg.dmr2.getLsbD (22 + n) = true)
      ∧ (s.cfg.wpci = true → s.dbg.dmr1.toNat / 4 ^ 8 % 4 = 0 → pre.getLsbD 8 = false → s.dbg.dmr2.getLsbD 20 = true →
          (countWatchpoints s fired).dbg.dwcr0.toNat % 2 ^ 16 = s.dbg.dwcr0.toNat / 2 ^ 16 →
          t.dbgPending = true ∧ t.dbg.dmr2.getLsbD 30 = true)
      ∧ (s.cfg.wpci = true → s.dbg.dmr1.toNat / 4 ^ 9 % 4 = 0 → pre.getLsbD 9 = false → s.dbg.dmr2.getLsbD 21 = true →
          (countWatchpoints s fired).dbg.dwcr1.toNat % 2 ^ 16 = s.dbg.dwcr1.toNat / 2 ^ 16 →
          t.dbgPending = true ∧ t.dbg.dmr2.getLsbD 31 = true)
      ∧ (s.dbg.dmr1.getLsbD 22 = false → (s.dbg.dmr1.getLsbD 23 && isBranch i) = false →
          s.dbg.dmr2.toNat / 2 ^ 12 % 2 ^ 10 = 0 → t.dbgPending = false))

/-- l.sys, in either mode, takes the system call exception with EPCR the next instruction, or the jump when it is in a
delay slot, and EEAR unchanged, and counts as executed (R884, R551); l.trap takes the trap exception with EPCR its own
address, or the jump (R552, R886). That bits 63-32 of the ESR are zero on XLEN = 64 is the model's choice (log 48). -/
def Obligations.SystemCallAndTrap : Prop :=
  ∀ (s : State) (k : BitVec 16),
    (Ready s (.lSys k) → exec (.lSys k) s = .next (enter .systemCall (s.pc + 4) none { s with ppc := s.pc })) ∧
    (Ready s (.lSys k) → s.diverts .systemCall = false → s.outOfContexts = false →
      ∃ t, exec (.lSys k) s = .next t ∧ t.pc = vectorAddr s 12
        ∧ t.epcr.get s.entryCtx = trunc s.cfg (if s.ds.isSome then s.pc - 4 else s.pc + 4)
        ∧ t.esr.get s.entryCtx = s.sr.setWidth 64 ∧ t.sm = true ∧ t.sr.getLsbD 13 = s.ds.isSome ∧ t.ppc = s.pc
        ∧ t.eear = s.eear ∧ t.gpr = s.gpr ∧ t.mem = s.mem) ∧
    (Ready s (.lTrap k) → exec (.lTrap k) s = .next (enter .trap s.pc none s)) ∧
    (Ready s (.lTrap k) → s.diverts .trap = false → s.outOfContexts = false →
      ∃ t, exec (.lTrap k) s = .next t ∧ t.pc = vectorAddr s 14
        ∧ t.epcr.get s.entryCtx = trunc s.cfg (if s.ds.isSome then s.pc - 4 else s.pc)
        ∧ t.esr.get s.entryCtx = s.sr.setWidth 64 ∧ t.sm = true ∧ t.sr.getLsbD 13 = s.ds.isSome ∧ t.ppc = s.ppc
        ∧ t.eear = s.eear ∧ t.gpr = s.gpr ∧ t.mem = s.mem)

/-- l.rfe in supervisor mode: pc from EPCR, SR from ESR within SR's implemented bits, the reservation kept; in user mode
it is an illegal instruction (R553, R865). In a delay slot the pending target is dropped, which is decision D47 (R532)
and the model's choice of log 18. -/
def Obligations.ReturnFromException : Prop :=
  ∀ s : State, Ready s .lRfe →
    (s.sm = true →
      ∃ t, exec .lRfe s = .next t ∧ t.pc = trunc s.cfg (s.epcr.get s.ctx)
        ∧ t.sr = (((s.esr.get s.ctx).setWidth 32 &&& srMask s.cfg) ||| 0x8000) ∧ t.ds = none ∧ t.ppc = s.pc
        ∧ t.resv = s.resv ∧ GprFrame s t [] ∧ MemFrame s t []
        ∧ t = { s with pc := t.pc, ppc := t.ppc, ds := t.ds, sr := t.sr }) ∧
    (s.sm = false → exec .lRfe s = .next (enter .illegal s.pc (some s.pc) s))

/-- An instruction whose subset or unit is absent, or which the implementation left out, takes the illegal instruction
exception and does nothing else (R322, R880). -/
def Obligations.UnimplementedIllegal : Prop :=
  ∀ (i : Instr) (s : State), implemented s.cfg i = false → exec i s = .next (enter .illegal s.pc (some s.pc) s)

/-- An instruction that names a general register the implementation lacks takes the range exception and does nothing else
(R883). -/
def Obligations.MissingRegisterRange : Prop :=
  ∀ (i : Instr) (s : State), implemented s.cfg i = true → regsExist s.cfg i = false →
    exec i s = .next (enter .range s.pc none s)

/-- A custom instruction that the implementation does not supply is illegal (R323, R580, D43); one that it supplies
completes with the effect of its function, in the last place the writes of special-purpose registers that its mode
allows (R580). What that function may change is log 19, a choice of the model, and so is the clause that a byte it writes
inside the OMPIC window, where R910 states no effect, is the memory beneath the device (logs 17 and 19). -/
def Obligations.CustomInstructions : Prop :=
∀ (s : State) (d a b k : BitVec 5) (l : BitVec 6),
    ∀ p ∈ ([(.lfCust1S a b, .lfCust1S), (.lfCust1D a b, .lfCust1D), (.lCust1, .lCust1), (.lCust2, .lCust2), (.lCust3, .lCust3),
        (.lCust4, .lCust4), (.lCust5 d a b l k, .lCust5), (.lCust6, .lCust6), (.lCust7, .lCust7), (.lCust8, .lCust8),
        (.lvCust1, .lvCust1), (.lvCust2, .lvCust2), (.lvCust3, .lvCust3), (.lvCust4, .lvCust4)] : List (Instr × CustomOp)),
      (p.2 ∉ s.cfg.customInsn → exec p.1 s = .next (enter .illegal s.pc (some s.pc) s)) ∧
      (Ready s p.1 → Memory.wf s.mem = true → ∀ e, e = customFunction p.1 s →
        ∃ u t, exec p.1 s = .next t ∧ t = e.sprs.foldl (fun v q => writeSpr v q.1 q.2) u
          ∧ GoesOn s u ∧ GprFrame s u (e.regs.map fun q => q.1)
          ∧ (∀ r : RegNo, r.toNat < s.cfg.ngpr →
              u.reg r = match e.regs.reverse.find? fun q => q.1 == r with
                | some q => trunc s.cfg q.2
                | none => s.reg r)
          ∧ u.sr = putBit (srFlags s.sr e.cy e.ov) 9 e.flag
          ∧ (∀ x, readByte u.mem x = match e.bytes.reverse.find? fun q => q.1 == x with
                | some q => q.2
                | none => readByte s.mem x)
          ∧ (∀ r, s.resv = some r → u.resv = (if ∃ q ∈ e.bytes, q.1 / 4 = r / 4 then none else some r))
          ∧ (s.resv = none → u.resv = none)
          ∧ u = { s with gpr := u.gpr, sr := u.sr, mem := u.mem, resv := u.resv, pc := u.pc, ppc := u.ppc, ds := u.ds,
                         free := u.free })

/-- l.add, l.addi, l.addc, l.addic and l.sub when no range exception is due: the result modulo 2^XLEN, CY the unsigned
carry or borrow, OV the signed overflow, everything else unchanged (R402-R406). -/
def Obligations.AddSubtractResults : Prop :=
  ∀ (s : State) (d a b : RegNo) (i : BitVec 16),
    (Ready s (.lAdd d a b) →
      AddResult (.lAdd d a b) s d (s.reg a) (s.reg b) 0) ∧
    (Ready s (.lAddi d a i) →
      AddResult (.lAddi d a i) s d (s.reg a) (sext s.cfg i) 0) ∧
    (Ready s (.lAddc d a b) →
      AddResult (.lAddc d a b) s d (s.reg a) (s.reg b) s.cy.toNat) ∧
    (Ready s (.lAddic d a i) →
      AddResult (.lAddic d a i) s d (s.reg a) (sext s.cfg i) s.cy.toNat) ∧
    (Ready s (.lSub d a b) →
      rangeDue s (addCauses (decide (toU s.cfg (s.reg a) < toU s.cfg (s.reg b)))
        (outOfRange s.cfg (toS s.cfg (s.reg a) - toS s.cfg (s.reg b))))
        (outOfRange s.cfg (toS s.cfg (s.reg a) - toS s.cfg (s.reg b))) = false →
      RegResult (.lSub d a b) s d (ofI s.cfg (toS s.cfg (s.reg a) - toS s.cfg (s.reg b)))
        (srFlags s.sr (decide (toU s.cfg (s.reg a) < toU s.cfg (s.reg b)))
          (outOfRange s.cfg (toS s.cfg (s.reg a) - toS s.cfg (s.reg b)))))

/-- An addition, subtraction or multiplication whose flag is enabled to trap first writes its result and flags, then takes
the range exception with EPCR its own address (R401, R883). -/
def Obligations.RangeExceptionAfterResult : Prop :=
  ∀ (s : State) (d a b : RegNo) (i : BitVec 16),
    (Ready s (.lAdd d a b) →
      AddTrap (.lAdd d a b) s d (s.reg a) (s.reg b) 0) ∧
    (Ready s (.lAddi d a i) →
      AddTrap (.lAddi d a i) s d (s.reg a) (sext s.cfg i) 0) ∧
    (Ready s (.lAddc d a b) →
      AddTrap (.lAddc d a b) s d (s.reg a) (s.reg b) s.cy.toNat) ∧
    (Ready s (.lAddic d a i) →
      AddTrap (.lAddic d a i) s d (s.reg a) (sext s.cfg i) s.cy.toNat) ∧
    (Ready s (.lSub d a b) → ∀ cy ov, cy = decide (toU s.cfg (s.reg a) < toU s.cfg (s.reg b)) →
      ov = outOfRange s.cfg (toS s.cfg (s.reg a) - toS s.cfg (s.reg b)) → rangeDue s (addCauses cy ov) ov = true →
      RangeResult (.lSub d a b) s d (ofI s.cfg (toS s.cfg (s.reg a) - toS s.cfg (s.reg b))) (srFlags s.sr cy ov)
        (addCauses cy ov)) ∧
    (Ready s (.lMul d a b) → ∀ ov, ov = outOfRange s.cfg (toS s.cfg (s.reg a) * toS s.cfg (s.reg b)) →
      rangeDue s (causeIf ov causeOvMul) ov = true →
      RangeResult (.lMul d a b) s d (ofI s.cfg (toS s.cfg (s.reg a) * toS s.cfg (s.reg b))) (putBit s.sr 11 ov)
        (causeIf ov causeOvMul)) ∧
    (Ready s (.lMuli d a i) → ∀ ov, ov = outOfRange s.cfg (toS s.cfg (s.reg a) * toS s.cfg (sext s.cfg i)) →
      rangeDue s (causeIf ov causeOvMul) ov = true →
      RangeResult (.lMuli d a i) s d (ofI s.cfg (toS s.cfg (s.reg a) * toS s.cfg (sext s.cfg i))) (putBit s.sr 11 ov)
        (causeIf ov causeOvMul)) ∧
    (Ready s (.lMulu d a b) → ∀ cy, cy = decide (2 ^ xlenBits s.cfg ≤ toU s.cfg (s.reg a) * toU s.cfg (s.reg b)) →
      rangeDue s (causeIf cy causeCyMul) false = true →
      RangeResult (.lMulu d a b) s d (ofN s.cfg (toU s.cfg (s.reg a) * toU s.cfg (s.reg b))) (putBit s.sr 10 cy)
        (causeIf cy causeCyMul))

/-- The logical instructions, l.movhi, l.adrp and l.cmov: the result, no flag, everything else unchanged (R407-R415). Bits
63-32 of the result of l.movhi on XLEN = 64, on which R304 and R413 disagree, are as the configuration says (log 13). -/
def Obligations.LogicAndMoveResults : Prop :=
  ∀ (s : State) (d a b : RegNo) (i k : BitVec 16) (p : BitVec 21),
    (Ready s (.lAnd d a b) → RegResult (.lAnd d a b) s d (s.reg a &&& s.reg b) s.sr) ∧
    (Ready s (.lAndi d a k) → RegResult (.lAndi d a k) s d (s.reg a &&& k.setWidth 64) s.sr) ∧
    (Ready s (.lOr d a b) → RegResult (.lOr d a b) s d (s.reg a ||| s.reg b) s.sr) ∧
    (Ready s (.lOri d a k) → RegResult (.lOri d a k) s d (s.reg a ||| k.setWidth 64) s.sr) ∧
    (Ready s (.lXor d a b) → RegResult (.lXor d a b) s d (s.reg a ^^^ s.reg b) s.sr) ∧
    (Ready s (.lXori d a i) → RegResult (.lXori d a i) s d (s.reg a ^^^ sext s.cfg i) s.sr) ∧
    (Ready s (.lMovhi d k) →
      RegResult (.lMovhi d k) s d (trunc s.cfg (if s.cfg.movhiSigned then (BitVec.ofNat 32 (k.toNat * 2 ^ 16)).signExtend 64
        else BitVec.ofNat 64 (k.toNat * 2 ^ 16))) s.sr) ∧
    (Ready s (.lAdrp d p) →
      RegResult (.lAdrp d p) s d (trunc s.cfg (BitVec.ofNat 64 (s.pc.toNat / 2 ^ 13 * 2 ^ 13) + (p ++ 0#13).signExtend 64))
        s.sr) ∧
    (Ready s (.lCmov d a b) → s.flag = true → RegResult (.lCmov d a b) s d (s.reg a) s.sr) ∧
    (Ready s (.lCmov d a b) → s.flag = false → RegResult (.lCmov d a b) s d (s.reg b) s.sr)

/-- The shifts and rotates by the low five or six bits of the count, as arithmetic on the XLEN-bit value (R416-R421, R424,
R425). -/
def Obligations.ShiftResults : Prop :=
  ∀ (s : State) (d a b : RegNo) (l : BitVec 6),
    (Ready s (.lSll d a b) → ∀ n, n = (s.reg b).toNat % xlenBits s.cfg →
      RegResult (.lSll d a b) s d (ofN s.cfg (toU s.cfg (s.reg a) * 2 ^ n)) s.sr) ∧
    (Ready s (.lSlli d a l) → ∀ n, n = l.toNat % xlenBits s.cfg →
      RegResult (.lSlli d a l) s d (ofN s.cfg (toU s.cfg (s.reg a) * 2 ^ n)) s.sr) ∧
    (Ready s (.lSrl d a b) → ∀ n, n = (s.reg b).toNat % xlenBits s.cfg →
      RegResult (.lSrl d a b) s d (ofN s.cfg (toU s.cfg (s.reg a) / 2 ^ n)) s.sr) ∧
    (Ready s (.lSrli d a l) → ∀ n, n = l.toNat % xlenBits s.cfg →
      RegResult (.lSrli d a l) s d (ofN s.cfg (toU s.cfg (s.reg a) / 2 ^ n)) s.sr) ∧
    (Ready s (.lSra d a b) → ∀ n, n = (s.reg b).toNat % xlenBits s.cfg →
      RegResult (.lSra d a b) s d (ofI s.cfg (toS s.cfg (s.reg a) / 2 ^ n)) s.sr) ∧
    (Ready s (.lSrai d a l) → ∀ n, n = l.toNat % xlenBits s.cfg →
      RegResult (.lSrai d a l) s d (ofI s.cfg (toS s.cfg (s.reg a) / 2 ^ n)) s.sr) ∧
    (Ready s (.lRor d a b) → ∀ n, n = (s.reg b).toNat % xlenBits s.cfg →
      RegResult (.lRor d a b) s d (ofN s.cfg (toU s.cfg (s.reg a) / 2 ^ n + toU s.cfg (s.reg a) * 2 ^ (xlenBits s.cfg - n))) s.sr) ∧
    (Ready s (.lRori d a l) → ∀ n, n = l.toNat % xlenBits s.cfg →
      RegResult (.lRori d a l) s d (ofN s.cfg (toU s.cfg (s.reg a) / 2 ^ n + toU s.cfg (s.reg a) * 2 ^ (xlenBits s.cfg - n))) s.sr)

/-- l.mul, l.muli and l.mulu when no range exception is due: the product modulo 2^XLEN, OV or CY when it does not fit,
everything else unchanged (R426-R428). -/
def Obligations.MultiplyResults : Prop :=
  ∀ (s : State) (d a b : RegNo) (i : BitVec 16),
    (Ready s (.lMul d a b) → ∀ ov, ov = outOfRange s.cfg (toS s.cfg (s.reg a) * toS s.cfg (s.reg b)) →
      rangeDue s (causeIf ov causeOvMul) ov = false →
      RegResult (.lMul d a b) s d (ofI s.cfg (toS s.cfg (s.reg a) * toS s.cfg (s.reg b))) (putBit s.sr 11 ov)) ∧
    (Ready s (.lMuli d a i) → ∀ ov, ov = outOfRange s.cfg (toS s.cfg (s.reg a) * toS s.cfg (sext s.cfg i)) →
      rangeDue s (causeIf ov causeOvMul) ov = false →
      RegResult (.lMuli d a i) s d (ofI s.cfg (toS s.cfg (s.reg a) * toS s.cfg (sext s.cfg i))) (putBit s.sr 11 ov)) ∧
    (Ready s (.lMulu d a b) → ∀ cy, cy = decide (2 ^ xlenBits s.cfg ≤ toU s.cfg (s.reg a) * toU s.cfg (s.reg b)) →
      rangeDue s (causeIf cy causeCyMul) false = false →
      RegResult (.lMulu d a b) s d (ofN s.cfg (toU s.cfg (s.reg a) * toU s.cfg (s.reg b))) (putBit s.sr 10 cy))

/-- l.muld and l.muldu: on XLEN = 32 the whole product in MACHI and MACLO and no flag (R422, R423); on XLEN = 64 the spec
leaves open what the accumulator and the flag become, and the instruction still completes (model's choice, log 11). -/
def Obligations.AccumulatorProducts : Prop :=
  ∀ (s : State) (a b : RegNo),
    (Ready s (.lMuld a b) → s.cfg.xlen = .x32 →
      MacResult (.lMuld a b) s (BitVec.ofInt 64 (toS s.cfg (s.reg a) * toS s.cfg (s.reg b))) s.sr) ∧
    (Ready s (.lMuldu a b) → s.cfg.xlen = .x32 →
      MacResult (.lMuldu a b) s (BitVec.ofNat 64 (toU s.cfg (s.reg a) * toU s.cfg (s.reg b))) s.sr) ∧
    (Ready s (.lMuld a b) → s.cfg.xlen = .x64 → s.ove = false →
      ∃ t ov, exec (.lMuld a b) s = .next t ∧ t.sr = putBit s.sr 11 ov ∧ GoesOn s t ∧ GprFrame s t [] ∧ MemFrame s t []
        ∧ t = { s with maclo := t.maclo, machi := t.machi, sr := t.sr, pc := t.pc, ppc := t.ppc, ds := t.ds,
                       free := t.free }) ∧
    (Ready s (.lMuldu a b) → s.cfg.xlen = .x64 → s.ove = false →
      ∃ t cy, exec (.lMuldu a b) s = .next t ∧ t.sr = putBit s.sr 10 cy ∧ GoesOn s t ∧ GprFrame s t [] ∧ MemFrame s t []
        ∧ t = { s with maclo := t.maclo, machi := t.machi, sr := t.sr, pc := t.pc, ppc := t.ppc, ds := t.ds,
                       free := t.free })

/-- l.div and l.divu with a divisor that is not zero: the quotient truncated toward zero, OV or CY cleared, everything
else unchanged (R429, R430). -/
def Obligations.DivideResults : Prop :=
  ∀ (s : State) (d a b : RegNo),
    (Ready s (.lDiv d a b) → toS s.cfg (s.reg b) ≠ 0 →
      RegResult (.lDiv d a b) s d (ofI s.cfg (Int.tdiv (toS s.cfg (s.reg a)) (toS s.cfg (s.reg b)))) (putBit s.sr 11 false)) ∧
    (Ready s (.lDivu d a b) → toU s.cfg (s.reg b) ≠ 0 →
      RegResult (.lDivu d a b) s d (ofN s.cfg (toU s.cfg (s.reg a) / toU s.cfg (s.reg b))) (putBit s.sr 10 false))

/-- Division by zero sets OV or CY and, when no range exception is due, completes with an unspecified value in rD; when it
is due, the range exception follows (R429, R430, D6; the free value is log 10). -/
def Obligations.DivideByZeroFree : Prop :=
  ∀ (s : State) (d a b : RegNo),
    (Ready s (.lDiv d a b) → toS s.cfg (s.reg b) = 0 → rangeDue s causeDbz true = false →
      ∃ t, exec (.lDiv d a b) s = .next t ∧ t.sr = putBit s.sr 11 true ∧ GoesOn s t ∧ GprFrame s t [d] ∧ MemFrame s t []
        ∧ t = { s with gpr := t.gpr, sr := t.sr, pc := t.pc, ppc := t.ppc, ds := t.ds, free := t.free }) ∧
    (Ready s (.lDivu d a b) → toU s.cfg (s.reg b) = 0 → rangeDue s causeDbz false = false →
      ∃ t, exec (.lDivu d a b) s = .next t ∧ t.sr = putBit s.sr 10 true ∧ GoesOn s t ∧ GprFrame s t [d] ∧ MemFrame s t []
        ∧ t = { s with gpr := t.gpr, sr := t.sr, pc := t.pc, ppc := t.ppc, ds := t.ds, free := t.free }) ∧
    (Ready s (.lDiv d a b) → toS s.cfg (s.reg b) = 0 → rangeDue s causeDbz true = true →
      ∃ u, exec (.lDiv d a b) s = .next (enter .range s.pc none u) ∧ u.sr = putBit s.sr 11 true ∧ GprFrame s u [d]
        ∧ u = { s with gpr := u.gpr, sr := u.sr, ppc := s.pc, aesr := u.aesr, free := u.free }) ∧
    (Ready s (.lDivu d a b) → toU s.cfg (s.reg b) = 0 → rangeDue s causeDbz false = true →
      ∃ u, exec (.lDivu d a b) s = .next (enter .range s.pc none u) ∧ u.sr = putBit s.sr 10 true ∧ GprFrame s u [d]
        ∧ u = { s with gpr := u.gpr, sr := u.sr, ppc := s.pc, aesr := u.aesr, free := u.free })

/-- The extend instructions, and l.ff1 and l.fl1, which give one more than the number of the lowest or highest set bit, or
0 (R431-R438). -/
def Obligations.ExtendAndFindResults : Prop :=
  ∀ (s : State) (d a : RegNo),
    (Ready s (.lExtbs d a) → RegResult (.lExtbs d a) s d (ofI s.cfg ((s.reg a).extractLsb' 0 8).toInt) s.sr) ∧
    (Ready s (.lExtbz d a) → RegResult (.lExtbz d a) s d (BitVec.ofNat 64 ((s.reg a).toNat % 2 ^ 8)) s.sr) ∧
    (Ready s (.lExths d a) → RegResult (.lExths d a) s d (ofI s.cfg ((s.reg a).extractLsb' 0 16).toInt) s.sr) ∧
    (Ready s (.lExthz d a) → RegResult (.lExthz d a) s d (BitVec.ofNat 64 ((s.reg a).toNat % 2 ^ 16)) s.sr) ∧
    (Ready s (.lExtws d a) → RegResult (.lExtws d a) s d (ofI s.cfg ((s.reg a).extractLsb' 0 32).toInt) s.sr) ∧
    (Ready s (.lExtwz d a) → RegResult (.lExtwz d a) s d (BitVec.ofNat 64 ((s.reg a).toNat % 2 ^ 32)) s.sr) ∧
    (Ready s (.lFf1 d a) → s.reg a = 0 → RegResult (.lFf1 d a) s d 0 s.sr) ∧
    (Ready s (.lFl1 d a) → s.reg a = 0 → RegResult (.lFl1 d a) s d 0 s.sr) ∧
    (∀ n, Ready s (.lFf1 d a) → (s.reg a).getLsbD n = true → (∀ m, m < n → (s.reg a).getLsbD m = false) →
      RegResult (.lFf1 d a) s d (BitVec.ofNat 64 (n + 1)) s.sr) ∧
    (∀ n, Ready s (.lFl1 d a) → (s.reg a).getLsbD n = true → (∀ m, n < m → (s.reg a).getLsbD m = false) →
      RegResult (.lFl1 d a) s d (BitVec.ofNat 64 (n + 1)) s.sr)

/-- The twenty compare instructions: SR[F] is the truth of the relation, and nothing else changes (R460-R481). -/
def Obligations.CompareResults : Prop :=
  ∀ (s : State) (a b : RegNo) (i : BitVec 16),
    (Ready s (.lSfeq a b) → SrResult (.lSfeq a b) s (putBit s.sr 9 (decide (toU s.cfg (s.reg a) = toU s.cfg (s.reg b))))) ∧
    (Ready s (.lSfeqi a i) → SrResult (.lSfeqi a i) s (putBit s.sr 9 (decide (toU s.cfg (s.reg a) = toU s.cfg (sext s.cfg i))))) ∧
    (Ready s (.lSfne a b) → SrResult (.lSfne a b) s (putBit s.sr 9 (decide (toU s.cfg (s.reg a) ≠ toU s.cfg (s.reg b))))) ∧
    (Ready s (.lSfnei a i) → SrResult (.lSfnei a i) s (putBit s.sr 9 (decide (toU s.cfg (s.reg a) ≠ toU s.cfg (sext s.cfg i))))) ∧
    (Ready s (.lSfgtu a b) → SrResult (.lSfgtu a b) s (putBit s.sr 9 (decide (toU s.cfg (s.reg b) < toU s.cfg (s.reg a))))) ∧
    (Ready s (.lSfgtui a i) → SrResult (.lSfgtui a i) s (putBit s.sr 9 (decide (toU s.cfg (sext s.cfg i) < toU s.cfg (s.reg a))))) ∧
    (Ready s (.lSfgeu a b) → SrResult (.lSfgeu a b) s (putBit s.sr 9 (decide (toU s.cfg (s.reg b) ≤ toU s.cfg (s.reg a))))) ∧
    (Ready s (.lSfgeui a i) → SrResult (.lSfgeui a i) s (putBit s.sr 9 (decide (toU s.cfg (sext s.cfg i) ≤ toU s.cfg (s.reg a))))) ∧
    (Ready s (.lSfltu a b) → SrResult (.lSfltu a b) s (putBit s.sr 9 (decide (toU s.cfg (s.reg a) < toU s.cfg (s.reg b))))) ∧
    (Ready s (.lSfltui a i) → SrResult (.lSfltui a i) s (putBit s.sr 9 (decide (toU s.cfg (s.reg a) < toU s.cfg (sext s.cfg i))))) ∧
    (Ready s (.lSfleu a b) → SrResult (.lSfleu a b) s (putBit s.sr 9 (decide (toU s.cfg (s.reg a) ≤ toU s.cfg (s.reg b))))) ∧
    (Ready s (.lSfleui a i) → SrResult (.lSfleui a i) s (putBit s.sr 9 (decide (toU s.cfg (s.reg a) ≤ toU s.cfg (sext s.cfg i))))) ∧
    (Ready s (.lSfgts a b) → SrResult (.lSfgts a b) s (putBit s.sr 9 (decide (toS s.cfg (s.reg b) < toS s.cfg (s.reg a))))) ∧
    (Ready s (.lSfgtsi a i) → SrResult (.lSfgtsi a i) s (putBit s.sr 9 (decide (toS s.cfg (sext s.cfg i) < toS s.cfg (s.reg a))))) ∧
    (Ready s (.lSfges a b) → SrResult (.lSfges a b) s (putBit s.sr 9 (decide (toS s.cfg (s.reg b) ≤ toS s.cfg (s.reg a))))) ∧
    (Ready s (.lSfgesi a i) → SrResult (.lSfgesi a i) s (putBit s.sr 9 (decide (toS s.cfg (sext s.cfg i) ≤ toS s.cfg (s.reg a))))) ∧
    (Ready s (.lSflts a b) → SrResult (.lSflts a b) s (putBit s.sr 9 (decide (toS s.cfg (s.reg a) < toS s.cfg (s.reg b))))) ∧
    (Ready s (.lSfltsi a i) → SrResult (.lSfltsi a i) s (putBit s.sr 9 (decide (toS s.cfg (s.reg a) < toS s.cfg (sext s.cfg i))))) ∧
    (Ready s (.lSfles a b) → SrResult (.lSfles a b) s (putBit s.sr 9 (decide (toS s.cfg (s.reg a) ≤ toS s.cfg (s.reg b))))) ∧
    (Ready s (.lSflesi a i) → SrResult (.lSflesi a i) s (putBit s.sr 9 (decide (toS s.cfg (s.reg a) ≤ toS s.cfg (sext s.cfg i)))))

/-- The loads, when the access of R215 succeeds at the physical addresses `pas`, outside the OMPIC: rD gets the operand in
the data byte order, extended as the instruction says; nothing else changes but what address translation changed
(R500-R510, R202, R203). -/
def Obligations.LoadResults : Prop :=
  ∀ (s s' : State) (d a : RegNo) (i : BitVec 16) (pas : List Nat), ompicAccess s.cfg pas = none →
    (Ready s (.lLbz d a i) → accessPas .load (s.addr a i) 1 s = .ok pas s' →
      LoadResult (.lLbz d a i) s s' d (ofN s.cfg (operandValue s' pas))) ∧
    (Ready s (.lLbs d a i) → accessPas .load (s.addr a i) 1 s = .ok pas s' →
      LoadResult (.lLbs d a i) s s' d (trunc s.cfg ((BitVec.ofNat 8 (operandValue s' pas)).signExtend 64))) ∧
    (Ready s (.lLhz d a i) → accessPas .load (s.addr a i) 2 s = .ok pas s' →
      LoadResult (.lLhz d a i) s s' d (ofN s.cfg (operandValue s' pas))) ∧
    (Ready s (.lLhs d a i) → accessPas .load (s.addr a i) 2 s = .ok pas s' →
      LoadResult (.lLhs d a i) s s' d (trunc s.cfg ((BitVec.ofNat 16 (operandValue s' pas)).signExtend 64))) ∧
    (Ready s (.lLwz d a i) → accessPas .load (s.addr a i) 4 s = .ok pas s' →
      LoadResult (.lLwz d a i) s s' d (ofN s.cfg (operandValue s' pas))) ∧
    (Ready s (.lLws d a i) → accessPas .load (s.addr a i) 4 s = .ok pas s' →
      LoadResult (.lLws d a i) s s' d (trunc s.cfg ((BitVec.ofNat 32 (operandValue s' pas)).signExtend 64))) ∧
    (Ready s (.lLd d a i) → accessPas .load (s.addr a i) 8 s = .ok pas s' →
      LoadResult (.lLd d a i) s s' d (ofN s.cfg (operandValue s' pas))) ∧
    (Ready s (.lLf d a i) → accessPas .load (s.addr a i) 4 s = .ok pas s' →
      LoadResult (.lLf d a i) s s' d (trunc s.cfg (0xFFFFFFFF#32 ++ BitVec.ofNat 32 (operandValue s' pas))))

/-- l.lwa loads the word as l.lwz does and reserves its physical address (R230, R511). -/
def Obligations.LinkedLoad : Prop :=
  ∀ (s s' : State) (d a : RegNo) (i : BitVec 16) (pas : List Nat), Ready s (.lLwa d a i) →
    accessPas .load (s.addr a i) 4 s = .ok pas s' → ompicAccess s.cfg pas = none →
    ∃ t, exec (.lLwa d a i) s = .next t ∧ t.reg d = ofN s.cfg (operandValue s' pas) ∧ t.resv = some (pas.headD 0)
      ∧ t.sr = s.sr ∧ GoesOn s t ∧ GprFrame s t [d] ∧ MemFrame s' t [] ∧ OnlyMmu s s'
      ∧ t = { s' with gpr := t.gpr, pc := t.pc, ppc := t.ppc, ds := t.ds, acc := t.acc, resv := t.resv }

/-- The stores, when the access of R215 succeeds at the physical addresses `pas`, outside the OMPIC: exactly those bytes
change, to the bytes of rB in the data byte order; a reservation of a touched word is lost; nothing else changes but
what address translation changed (R500-R502, R512-R515, R231). -/
def Obligations.StoreResults : Prop :=
  ∀ (s s' : State) (a b : RegNo) (i : BitVec 16) (pas : List Nat), Memory.wf s.mem = true →
    ompicAccess s.cfg pas = none →
    (Ready s (.lSb a b i) → accessPas .store (s.addr a i) 1 s = .ok pas s' →
      StoreResult (.lSb a b i) s s' 1 (s.reg b) pas) ∧
    (Ready s (.lSh a b i) → accessPas .store (s.addr a i) 2 s = .ok pas s' →
      StoreResult (.lSh a b i) s s' 2 (s.reg b) pas) ∧
    (Ready s (.lSw a b i) → accessPas .store (s.addr a i) 4 s = .ok pas s' →
      StoreResult (.lSw a b i) s s' 4 (s.reg b) pas) ∧
    (Ready s (.lSd a b i) → accessPas .store (s.addr a i) 8 s = .ok pas s' →
      StoreResult (.lSd a b i) s s' 8 (s.reg b) pas)

/-- l.swa, its checks passed, stores its word and sets SR[F] exactly when a reservation for its physical address is still
there after them, otherwise it clears SR[F] and stores nothing; the reservation is gone either way (R232, R233, R516). -/
def Obligations.ConditionalStore : Prop :=
  ∀ (s s' : State) (a b : RegNo) (i : BitVec 16) (pas : List Nat), Memory.wf s.mem = true →
    Ready s (.lSwa a b i) → accessPas .store (s.addr a i) 4 s = .ok pas s' →
    (ompicAccess s.cfg pas = none ∨ s'.resv ≠ some (pas.headD 0)) →
    ∃ t, exec (.lSwa a b i) s = .next t ∧ t.resv = none ∧ GoesOn s t ∧ GprFrame s t [] ∧ OnlyMmu s s'
      ∧ (s'.resv = some (pas.headD 0) →
          t.sr = putBit s.sr 9 true ∧ MemFrame s' t pas
          ∧ (pas.Nodup → ∀ j p, pas[j]? = some p → readByte t.mem p = operandByte s 4 (s.reg b) j))
      ∧ (s'.resv ≠ some (pas.headD 0) → t.sr = putBit s.sr 9 false ∧ MemFrame s' t [])
      ∧ t = { s' with mem := t.mem, sr := t.sr, resv := t.resv, acc := t.acc, pc := t.pc, ppc := t.ppc, ds := t.ds }

/-- Without translation a data access touches the bytes at its effective address within PA_BITS, when it is aligned or the
implementation supports unaligned accesses and memory answers at each, for each operand size (R210, R213, R215, R217). -/
def Obligations.PlainAccessAddresses : Prop :=
  ∀ (s : State) (k : AccKind) (ea : Word) (n : Nat), n ∈ ([1, 2, 4, 8] : List Nat) → s.translated k = false →
    (aligned ea n = true ∨ s.cfg.unalignedOk = true) → (∀ p ∈ plainPas s ea n, validPa s.cfg k p = true) →
    accessPas k ea n s = .ok (plainPas s ea n) s

/-- A load or store whose effective address is not a multiple of its size takes the alignment exception with EEAR that
address, and does nothing else, unless the implementation supports it (R210, R215). -/
def Obligations.MisalignedAccess : Prop :=
  ∀ (s : State) (i : Instr) (k : AccKind) (ea : Word) (n : Nat), Ready s i → accessOf s i = some (k, ea, n) →
    aligned ea n = false → s.cfg.unalignedOk = false → exec i s = .next (enter .alignment s.pc (some ea) s)

/-- An aligned, untranslated load or store whose physical address is one where nothing answers takes the bus error
exception with EEAR the effective address, and does nothing else (R215). -/
def Obligations.AbsentMemoryBusError : Prop :=
  ∀ (s : State) (i : Instr) (k : AccKind) (ea : Word) (n : Nat), Ready s i → accessOf s i = some (k, ea, n) →
    aligned ea n = true → s.translated k = false → validPa s.cfg k (plainPa s ea) = false →
    exec i s = .next (enter .busError s.pc (some ea) s)

/-- Jumps and branches outside a delay slot: with delay slots the target waits until after the next instruction, without
them it is taken at once; l.jal and l.jalr link (R530-R540). -/
def Obligations.JumpResults : Prop :=
  ∀ (s : State) (n : BitVec 26) (b : RegNo), s.ds = none →
    (Ready s (.lJ n) → JumpResult (.lJ n) s [] true (s.relTarget n)) ∧
    (Ready s (.lBf n) → JumpResult (.lBf n) s [] s.flag (s.relTarget n)) ∧
    (Ready s (.lBnf n) → JumpResult (.lBnf n) s [] (!s.flag) (s.relTarget n)) ∧
    (Ready s (.lJr b) → JumpResult (.lJr b) s [] true (s.reg b)) ∧
    (Ready s (.lJal n) → JumpResult (.lJal n) s [9] true (s.relTarget n)) ∧
    (Ready s (.lJalr b) → JumpResult (.lJalr b) s [9] true (s.reg b)) ∧
    (∀ t, Ready s (.lJal n) → exec (.lJal n) s = .next t → t.reg 9 = trunc s.cfg (s.pc + if s.cfg.nd then 4 else 8)) ∧
    (∀ t, Ready s (.lJalr b) → exec (.lJalr b) s = .next t → t.reg 9 = trunc s.cfg (s.pc + if s.cfg.nd then 4 else 8)) ∧
    s.relTarget n = ofI s.cfg (toS s.cfg s.pc + 4 * n.toInt)

/-- A jump or branch in a delay slot has no next state in the spec, and the model refuses it by name (R532, D47). -/
def Obligations.JumpInSlotRefused : Prop :=
  ∀ (s : State) (n : BitVec 26) (b : RegNo), s.ds ≠ none →
    ∀ i ∈ [Instr.lJ n, .lJal n, .lBf n, .lBnf n, .lJr b, .lJalr b], Ready s i → exec i s = .refused .jumpInDelaySlot

/-- l.nop, l.msync, l.psync and l.csync change nothing but the program counter (R541, R560-R562). -/
def Obligations.NoEffectInstructions : Prop :=
  ∀ (s : State) (k : BitVec 16), ∀ i ∈ [Instr.lNop k, .lMsync, .lPsync, .lCsync], Ready s i → SrResult i s s.sr

/-- l.mfspr: rD gets the register at rA OR K if it is implemented and the mode may read it, else 0; nothing else changes
(R31, R32, R555). -/
def Obligations.MoveFromSpr : Prop :=
  ∀ (s : State) (d a : RegNo) (k : BitVec 16), Ready s (.lMfspr d a k) → ∀ x, x = (s.reg a).extractLsb' 0 16 ||| k →
    (∀ r, sprAt x = some r → sprPresent s.cfg r = true → sprReadable s.sm s.sumra r = true →
      RegResult (.lMfspr d a k) s d (trunc s.cfg (readReg s r)) s.sr) ∧
    (∀ r, sprAt x = some r → (sprPresent s.cfg r && sprReadable s.sm s.sumra r) = false →
      RegResult (.lMfspr d a k) s d 0 s.sr) ∧
    (sprAt x = none → RegResult (.lMfspr d a k) s d 0 s.sr)

/-- l.mtspr: the write takes effect on the state in which the instruction is done (R556); a write to a register that is
not implemented or that the mode may not write changes nothing (R31, R32). -/
def Obligations.MoveToSpr : Prop :=
  ∀ (s : State) (a b : RegNo) (k : BitVec 16), Ready s (.lMtspr a b k) → ∀ x, x = (s.reg a).extractLsb' 0 16 ||| k →
    (∀ r, sprAt x = some r → sprPresent s.cfg r = true → sprWritable s.sm r = true →
      ∃ u, exec (.lMtspr a b k) s = .next (writeReg u r (s.reg b)) ∧ GoesOn s u
        ∧ u = { s with pc := u.pc, ppc := u.ppc, ds := u.ds }) ∧
    (∀ r, sprAt x = some r → (sprPresent s.cfg r && sprWritable s.sm r) = false → SrResult (.lMtspr a b k) s s.sr) ∧
    (sprAt x = none → SrResult (.lMtspr a b k) s s.sr)

/-- A supervisor write of a register that only holds a value is what the next read gives, the exception registers in XLEN
bits and the 32-bit ones in 32 (R40-R42, R47, R48, R140, R160, R185, R555, R556). -/
def Obligations.SprReadBack : Prop :=
  ∀ (s t : State) (a b : RegNo) (k x : BitVec 16) (r : Spr), x = (s.reg a).extractLsb' 0 16 ||| k → sprAt x = some r →
    s.sm = true → sprPresent s.cfg r = true → Ready s (.lMtspr a b k) → exec (.lMtspr a b k) s = .next t →
    ((∀ n, r = .epcr n ∨ r = .eear n ∨ r = .esr n → readSpr t x = s.reg b) ∧
     (r ∈ [Spr.maclo, .machi, .fpmaddlo, .fpmaddhi, .dwcr0, .dwcr1, .ttcr] →
       readSpr t x = ((s.reg b).extractLsb' 0 32).setWidth 64) ∧
     (∀ n, r = .dvr n ∨ r = .pccr n → readSpr t x = ((s.reg b).extractLsb' 0 32).setWidth 64) ∧
     (r = .sr → t.sr = (((s.reg b).setWidth 32 &&& srMask s.cfg) ||| 0x8000)))

/-- l.mac, l.maci and l.msb (signed, SR[OV]) and l.macu and l.msbu (unsigned, SR[CY]): the accumulator modulo 2^64, the
flag when the exact sum or difference with the product does not fit in 64 bits, and, result and flag written, the
range exception when it is due (R401, R569-R574, R883); on XLEN = 64 the product counts modulo 2^64 (R569's derived
reading, log 14). On XLEN = 64 l.muld and l.muldu complete, or take the range exception, with an accumulator and a
flag the spec leaves open (log 11). -/
def Obligations.MacResults : Prop :=
  ∀ (s : State) (a b : RegNo) (i : BitVec 16),
    (Ready s (.lMac a b) → ∀ z ov, z = s.mac.toInt + macProduct s.cfg (s.reg a) (s.reg b) →
      ov = decide (z < -2 ^ 63 ∨ 2 ^ 63 ≤ z) →
      MacOutcome (.lMac a b) s (BitVec.ofInt 64 z) (putBit s.sr 11 ov) (causeIf ov causeOvMac) ov) ∧
    (Ready s (.lMaci a i) → ∀ z ov, z = s.mac.toInt + macProduct s.cfg (s.reg a) (sext s.cfg i) →
      ov = decide (z < -2 ^ 63 ∨ 2 ^ 63 ≤ z) →
      MacOutcome (.lMaci a i) s (BitVec.ofInt 64 z) (putBit s.sr 11 ov) (causeIf ov causeOvMac) ov) ∧
    (Ready s (.lMsb a b) → ∀ z ov, z = s.mac.toInt - macProduct s.cfg (s.reg a) (s.reg b) →
      ov = decide (z < -2 ^ 63 ∨ 2 ^ 63 ≤ z) →
      MacOutcome (.lMsb a b) s (BitVec.ofInt 64 z) (putBit s.sr 11 ov) (causeIf ov causeOvMac) ov) ∧
    (Ready s (.lMacu a b) → ∀ z cy, z = (s.mac.toNat : Int) + macProductU s.cfg (s.reg a) (s.reg b) →
      cy = decide (2 ^ 64 ≤ z) →
      MacOutcome (.lMacu a b) s (BitVec.ofInt 64 z) (putBit s.sr 10 cy) (causeIf cy causeCyMac) false) ∧
    (Ready s (.lMsbu a b) → ∀ z cy, z = (s.mac.toNat : Int) - macProductU s.cfg (s.reg a) (s.reg b) →
      cy = decide (z < 0) →
      MacOutcome (.lMsbu a b) s (BitVec.ofInt 64 z) (putBit s.sr 10 cy) (causeIf cy causeCyMac) false) ∧
    (Ready s (.lMuld a b) → s.cfg.xlen = .x64 → ∃ fl,
      (rangeDue s (causeIf fl causeOvMul) fl = false →
        ∃ t, exec (.lMuld a b) s = .next t ∧ t.sr = putBit s.sr 11 fl ∧ GoesOn s t
          ∧ t = { s with maclo := t.maclo, machi := t.machi, sr := t.sr, pc := t.pc, ppc := t.ppc, ds := t.ds,
                         free := t.free }) ∧
      (rangeDue s (causeIf fl causeOvMul) fl = true →
        ∃ u, exec (.lMuld a b) s = .next (enter .range s.pc none u) ∧ u.sr = putBit s.sr 11 fl ∧ u.ppc = s.pc
          ∧ u.aesr = (if s.cfg.hasAecr then s.aesr ||| (s.aecr &&& causeIf fl causeOvMul) else s.aesr)
          ∧ u = { s with maclo := u.maclo, machi := u.machi, sr := u.sr, ppc := u.ppc, aesr := u.aesr, free := u.free })) ∧
    (Ready s (.lMuldu a b) → s.cfg.xlen = .x64 → ∃ fl,
      (rangeDue s (causeIf fl causeCyMul) false = false →
        ∃ t, exec (.lMuldu a b) s = .next t ∧ t.sr = putBit s.sr 10 fl ∧ GoesOn s t
          ∧ t = { s with maclo := t.maclo, machi := t.machi, sr := t.sr, pc := t.pc, ppc := t.ppc, ds := t.ds,
                         free := t.free }) ∧
      (rangeDue s (causeIf fl causeCyMul) false = true →
        ∃ u, exec (.lMuldu a b) s = .next (enter .range s.pc none u) ∧ u.sr = putBit s.sr 10 fl ∧ u.ppc = s.pc
          ∧ u.aesr = (if s.cfg.hasAecr then s.aesr ||| (s.aecr &&& causeIf fl causeCyMul) else s.aesr)
          ∧ u = { s with maclo := u.maclo, machi := u.machi, sr := u.sr, ppc := u.ppc, aesr := u.aesr, free := u.free }))

/-- l.macrc puts MACLO, or on XLEN = 64 the whole accumulator, in rD and clears the accumulator, and changes nothing else;
its word and those beside it under the same opcode, the registers that l.mfspr reads before it, and that an
implementation may leave it out (R575). -/
def Obligations.MacReadAndClear : Prop :=
  ∀ (s : State) (d : RegNo),
    (Ready s (.lMacrc d) → ∃ t, exec (.lMacrc d) s = .next t
      ∧ t.reg d = (if s.cfg.xlen = .x64 then s.machi ++ s.maclo else s.maclo.setWidth 64) ∧ t.maclo = 0 ∧ t.machi = 0
      ∧ t.sr = s.sr ∧ GoesOn s t ∧ GprFrame s t [d] ∧ MemFrame s t []
      ∧ t = { s with gpr := t.gpr, maclo := t.maclo, machi := t.machi, pc := t.pc, ppc := t.ppc, ds := t.ds }) ∧
    (∀ (a : RegNo) (k x : BitVec 16), Ready s (.lMfspr d a k) → s.cfg.hasMac = true → x = (s.reg a).extractLsb' 0 16 ||| k →
      (x = 0x2801 → RegResult (.lMfspr d a k) s d (s.maclo.setWidth 64) s.sr) ∧
      (x = 0x2802 → RegResult (.lMfspr d a k) s d (s.machi.setWidth 64) s.sr)) ∧
    (∀ w : Word32, w &&& 0xFC01FFFF = 0x18010000 → decodeWord w = .ok (.lMacrc (w.extractLsb' 21 5))) ∧
    (∀ w : Word32, w.toNat / 2 ^ 26 = 6 →
      (w.getLsbD 16 = false → decodeWord w = .ok (.lMovhi (w.extractLsb' 21 5) (w.extractLsb' 0 16))) ∧
      (w.getLsbD 16 = true → w.toNat % 2 ^ 16 ≠ 0 → ∃ x, decodeWord w = .error x)) ∧
    (.lMacrc ∈ s.cfg.class2Absent → implemented s.cfg (.lMacrc d) = false) ∧
    (s.cfg.hasMac = true → .lMacrc ∉ s.cfg.class2Absent → implemented s.cfg (.lMacrc d) = true)

/-- The single-precision arithmetic and conversion instructions when no floating-point exception is due: the rounded
result in bits 31-0 of rD with ones above them on XLEN = 64, FPCSR gains the raised flags, nothing else changes;
lf.madd.s changes FPMADDLO instead of a general register (R602, R604, R610-R615, R618, R647). -/
def Obligations.SingleResults : Prop :=
  ∀ (s : State) (d a b : RegNo) (a2 : BitVec 1),
    (Ready s (.lfAddS d a b) → ∀ r, r = fpSum fpSingle s.rm (s.fpS a) (s.fpS b) → NoFpTrap s r.flags →
      SingleResult (.lfAddS d a b) s d r) ∧
    (Ready s (.lfSubS d a b) → ∀ r, r = fpSum fpSingle s.rm (s.fpS a) (fpNegate (s.fpS b)) → NoFpTrap s r.flags →
      SingleResult (.lfSubS d a b) s d r) ∧
    (Ready s (.lfMulS d a b) → ∀ r, r = fpProduct fpSingle s.rm (s.fpS a) (s.fpS b) → NoFpTrap s r.flags →
      SingleResult (.lfMulS d a b) s d r) ∧
    (Ready s (.lfDivS d a b) → ∀ r, r = fpQuotient fpSingle s.rm (s.fpS a) (s.fpS b) → NoFpTrap s r.flags →
      SingleResult (.lfDivS d a b) s d r) ∧
    (Ready s (.lfItofS d a) → ∀ r, r = fpRoundInt fpSingle s.rm ((s.reg a).setWidth 32).toInt 0 false → NoFpTrap s r.flags →
      SingleResult (.lfItofS d a) s d r) ∧
    (Ready s (.lfDtosD d a a2) → ∀ r, r = fpConvert fpSingle s.rm (s.fpD a a2) → NoFpTrap s r.flags →
      SingleResult (.lfDtosD d a a2) s d r) ∧
    (Ready s (.lfFtoiS d a) → ∀ z flags, fpToInt 32 (s.fpS a) = some (z, flags) → NoFpTrap s flags →
      FpResult (.lfFtoiS d a) s [d] flags s.sr fun t => t.reg d = trunc s.cfg ((BitVec.ofInt 32 z).signExtend 64)) ∧
    (Ready s (.lfFtoiS d a) → fpToInt 32 (s.fpS a) = none → s.fpee = false →
      FpResult (.lfFtoiS d a) s [d] flagIvf s.sr fun _ => True) ∧
    (Ready s (.lfMaddS a b) → ∀ r, r = fpFused fpSingle s.rm (s.fpS a) (s.fpS b) (fpUnpack fpSingle s.fpmaddlo.toNat) →
      NoFpTrap s r.flags →
      ∃ t, exec (.lfMaddS a b) s = .next t ∧ t.fpmaddlo = BitVec.ofNat 32 r.bits ∧ t.fpcsr = s.fpcsr ||| r.flags
        ∧ t.sr = s.sr ∧ GoesOn s t ∧ GprFrame s t [] ∧ MemFrame s t []
        ∧ t = { s with fpmaddlo := t.fpmaddlo, fpcsr := t.fpcsr, pc := t.pc, ppc := t.ppc, ds := t.ds })

/-- The double-precision arithmetic and conversion instructions when no floating-point exception is due: the rounded
result in rD, or on XLEN = 32 in the register pair with the upper half in the first register; FPCSR gains the raised
flags; lf.stod.d raises none (R602, R603, R640-R648). -/
def Obligations.DoubleResults : Prop :=
  ∀ (s : State) (d a b : RegNo) (d2 a2 b2 : BitVec 1),
    (Ready s (.lfAddD d a b d2 a2 b2) → ∀ r, r = fpSum fpDouble s.rm (s.fpD a a2) (s.fpD b b2) → NoFpTrap s r.flags →
      DoubleResult (.lfAddD d a b d2 a2 b2) s d d2 (BitVec.ofNat 64 r.bits) r.flags) ∧
    (Ready s (.lfSubD d a b d2 a2 b2) → ∀ r, r = fpSum fpDouble s.rm (s.fpD a a2) (fpNegate (s.fpD b b2)) → NoFpTrap s r.flags →
      DoubleResult (.lfSubD d a b d2 a2 b2) s d d2 (BitVec.ofNat 64 r.bits) r.flags) ∧
    (Ready s (.lfMulD d a b d2 a2 b2) → ∀ r, r = fpProduct fpDouble s.rm (s.fpD a a2) (s.fpD b b2) → NoFpTrap s r.flags →
      DoubleResult (.lfMulD d a b d2 a2 b2) s d d2 (BitVec.ofNat 64 r.bits) r.flags) ∧
    (Ready s (.lfDivD d a b d2 a2 b2) → ∀ r, r = fpQuotient fpDouble s.rm (s.fpD a a2) (s.fpD b b2) → NoFpTrap s r.flags →
      DoubleResult (.lfDivD d a b d2 a2 b2) s d d2 (BitVec.ofNat 64 r.bits) r.flags) ∧
    (Ready s (.lfItofD d a d2 a2) → ∀ r, r = fpRoundInt fpDouble s.rm (s.double a a2).toInt 0 false → NoFpTrap s r.flags →
      DoubleResult (.lfItofD d a d2 a2) s d d2 (BitVec.ofNat 64 r.bits) r.flags) ∧
    (Ready s (.lfStodD d a d2) →
      DoubleResult (.lfStodD d a d2) s d d2 (BitVec.ofNat 64 (fpConvert fpDouble s.rm (s.fpS a)).bits) 0) ∧
    (Ready s (.lfFtoiD d a d2 a2) → ∀ z flags, fpToInt 64 (s.fpD a a2) = some (z, flags) → NoFpTrap s flags →
      DoubleResult (.lfFtoiD d a d2 a2) s d d2 (BitVec.ofInt 64 z) flags) ∧
    (Ready s (.lfFtoiD d a d2 a2) → fpToInt 64 (s.fpD a a2) = none → s.fpee = false →
      FpResult (.lfFtoiD d a d2 a2) s (doubleRegs s.cfg d d2) flagIvf s.sr fun _ => True) ∧
    (Ready s (.lfMaddD a b a2 b2) →
      ∀ r, r = fpFused fpDouble s.rm (s.fpD a a2) (s.fpD b b2) (fpUnpack fpDouble (s.fpmaddhi ++ s.fpmaddlo).toNat) →
      NoFpTrap s r.flags →
      ∃ t, exec (.lfMaddD a b a2 b2) s = .next t ∧ t.fpmaddhi ++ t.fpmaddlo = BitVec.ofNat 64 r.bits
        ∧ t.fpcsr = s.fpcsr ||| r.flags ∧ t.sr = s.sr ∧ GoesOn s t ∧ GprFrame s t [] ∧ MemFrame s t []
        ∧ t = { s with fpmaddlo := t.fpmaddlo, fpmaddhi := t.fpmaddhi, fpcsr := t.fpcsr, pc := t.pc, ppc := t.ppc,
                       ds := t.ds })

/-- The thirteen single-precision compares when no floating-point exception is due: SR[F], and the flags each kind of
compare raises (R606, R620-R632). -/
def Obligations.SingleCompares : Prop :=
  ∀ (s : State) (a b : RegNo),
    (Ready s (.lfSfeqS a b) → ∀ fl, fl = (flagIf (fpIsInf (s.fpS a) || fpIsInf (s.fpS b)) flagInf ||| flagIf (fpIsSnan (s.fpS a) || fpIsSnan (s.fpS b)) flagIvf) → NoFpTrap s fl →
      FpResult (.lfSfeqS a b) s [] fl (putBit s.sr 9 (fpEq (s.fpS a) (s.fpS b))) fun _ => True) ∧
    (Ready s (.lfSfneS a b) → ∀ fl, fl = (flagIf (fpIsInf (s.fpS a) || fpIsInf (s.fpS b)) flagInf ||| flagIf (fpIsSnan (s.fpS a) || fpIsSnan (s.fpS b)) flagIvf) → NoFpTrap s fl →
      FpResult (.lfSfneS a b) s [] fl (putBit s.sr 9 (!fpEq (s.fpS a) (s.fpS b))) fun _ => True) ∧
    (Ready s (.lfSfgtS a b) → ∀ fl, fl = (flagIf (fpIsInf (s.fpS a) || fpIsInf (s.fpS b)) flagInf ||| flagIf (fpIsNan (s.fpS a) || fpIsNan (s.fpS b)) flagIvf) → NoFpTrap s fl →
      FpResult (.lfSfgtS a b) s [] fl (putBit s.sr 9 (fpLt (s.fpS b) (s.fpS a))) fun _ => True) ∧
    (Ready s (.lfSfgeS a b) → ∀ fl, fl = (flagIf (fpIsInf (s.fpS a) || fpIsInf (s.fpS b)) flagInf ||| flagIf (fpIsNan (s.fpS a) || fpIsNan (s.fpS b)) flagIvf) → NoFpTrap s fl →
      FpResult (.lfSfgeS a b) s [] fl (putBit s.sr 9 (fpLe (s.fpS b) (s.fpS a))) fun _ => True) ∧
    (Ready s (.lfSfltS a b) → ∀ fl, fl = (flagIf (fpIsInf (s.fpS a) || fpIsInf (s.fpS b)) flagInf ||| flagIf (fpIsNan (s.fpS a) || fpIsNan (s.fpS b)) flagIvf) → NoFpTrap s fl →
      FpResult (.lfSfltS a b) s [] fl (putBit s.sr 9 (fpLt (s.fpS a) (s.fpS b))) fun _ => True) ∧
    (Ready s (.lfSfleS a b) → ∀ fl, fl = (flagIf (fpIsInf (s.fpS a) || fpIsInf (s.fpS b)) flagInf ||| flagIf (fpIsNan (s.fpS a) || fpIsNan (s.fpS b)) flagIvf) → NoFpTrap s fl →
      FpResult (.lfSfleS a b) s [] fl (putBit s.sr 9 (fpLe (s.fpS a) (s.fpS b))) fun _ => True) ∧
    (Ready s (.lfSfueqS a b) → ∀ fl, fl = (flagIf (fpIsInf (s.fpS a) || fpIsInf (s.fpS b)) flagInf) → NoFpTrap s fl →
      FpResult (.lfSfueqS a b) s [] fl (putBit s.sr 9 (fpIsNan (s.fpS a) || fpIsNan (s.fpS b) || (fpEq (s.fpS a) (s.fpS b)))) fun _ => True) ∧
    (Ready s (.lfSfuneS a b) → ∀ fl, fl = (flagIf (fpIsInf (s.fpS a) || fpIsInf (s.fpS b)) flagInf) → NoFpTrap s fl →
      FpResult (.lfSfuneS a b) s [] fl (putBit s.sr 9 (fpIsNan (s.fpS a) || fpIsNan (s.fpS b) || (!fpEq (s.fpS a) (s.fpS b)))) fun _ => True) ∧
    (Ready s (.lfSfugtS a b) → ∀ fl, fl = (flagIf (fpIsInf (s.fpS a) || fpIsInf (s.fpS b)) flagInf) → NoFpTrap s fl →
      FpResult (.lfSfugtS a b) s [] fl (putBit s.sr 9 (fpIsNan (s.fpS a) || fpIsNan (s.fpS b) || (fpLt (s.fpS b) (s.fpS a)))) fun _ => True) ∧
    (Ready s (.lfSfugeS a b) → ∀ fl, fl = (flagIf (fpIsInf (s.fpS a) || fpIsInf (s.fpS b)) flagInf) → NoFpTrap s fl →
      FpResult (.lfSfugeS a b) s [] fl (putBit s.sr 9 (fpIsNan (s.fpS a) || fpIsNan (s.fpS b) || (fpLe (s.fpS b) (s.fpS a)))) fun _ => True) ∧
    (Ready s (.lfSfultS a b) → ∀ fl, fl = (flagIf (fpIsInf (s.fpS a) || fpIsInf (s.fpS b)) flagInf) → NoFpTrap s fl →
      FpResult (.lfSfultS a b) s [] fl (putBit s.sr 9 (fpIsNan (s.fpS a) || fpIsNan (s.fpS b) || (fpLt (s.fpS a) (s.fpS b)))) fun _ => True) ∧
    (Ready s (.lfSfuleS a b) → ∀ fl, fl = (flagIf (fpIsInf (s.fpS a) || fpIsInf (s.fpS b)) flagInf) → NoFpTrap s fl →
      FpResult (.lfSfuleS a b) s [] fl (putBit s.sr 9 (fpIsNan (s.fpS a) || fpIsNan (s.fpS b) || (fpLe (s.fpS a) (s.fpS b)))) fun _ => True) ∧
    (Ready s (.lfSfunS a b) → ∀ fl, fl = (flagIf (fpIsInf (s.fpS a) || fpIsInf (s.fpS b)) flagInf) → NoFpTrap s fl →
      FpResult (.lfSfunS a b) s [] fl (putBit s.sr 9 (fpIsNan (s.fpS a) || fpIsNan (s.fpS b))) fun _ => True)

/-- The thirteen double-precision compares, likewise (R606, R650-R662). -/
def Obligations.DoubleCompares : Prop :=
  ∀ (s : State) (a b : RegNo) (a2 b2 : BitVec 1),
    (Ready s (.lfSfeqD a b a2 b2) → ∀ fl, fl = (flagIf (fpIsInf (s.fpD a a2) || fpIsInf (s.fpD b b2)) flagInf ||| flagIf (fpIsSnan (s.fpD a a2) || fpIsSnan (s.fpD b b2)) flagIvf) → NoFpTrap s fl →
      FpResult (.lfSfeqD a b a2 b2) s [] fl (putBit s.sr 9 (fpEq (s.fpD a a2) (s.fpD b b2))) fun _ => True) ∧
    (Ready s (.lfSfneD a b a2 b2) → ∀ fl, fl = (flagIf (fpIsInf (s.fpD a a2) || fpIsInf (s.fpD b b2)) flagInf ||| flagIf (fpIsSnan (s.fpD a a2) || fpIsSnan (s.fpD b b2)) flagIvf) → NoFpTrap s fl →
      FpResult (.lfSfneD a b a2 b2) s [] fl (putBit s.sr 9 (!fpEq (s.fpD a a2) (s.fpD b b2))) fun _ => True) ∧
    (Ready s (.lfSfgtD a b a2 b2) → ∀ fl, fl = (flagIf (fpIsInf (s.fpD a a2) || fpIsInf (s.fpD b b2)) flagInf ||| flagIf (fpIsNan (s.fpD a a2) || fpIsNan (s.fpD b b2)) flagIvf) → NoFpTrap s fl →
      FpResult (.lfSfgtD a b a2 b2) s [] fl (putBit s.sr 9 (fpLt (s.fpD b b2) (s.fpD a a2))) fun _ => True) ∧
    (Ready s (.lfSfgeD a b a2 b2) → ∀ fl, fl = (flagIf (fpIsInf (s.fpD a a2) || fpIsInf (s.fpD b b2)) flagInf ||| flagIf (fpIsNan (s.fpD a a2) || fpIsNan (s.fpD b b2)) flagIvf) → NoFpTrap s fl →
      FpResult (.lfSfgeD a b a2 b2) s [] fl (putBit s.sr 9 (fpLe (s.fpD b b2) (s.fpD a a2))) fun _ => True) ∧
    (Ready s (.lfSfltD a b a2 b2) → ∀ fl, fl = (flagIf (fpIsInf (s.fpD a a2) || fpIsInf (s.fpD b b2)) flagInf ||| flagIf (fpIsNan (s.fpD a a2) || fpIsNan (s.fpD b b2)) flagIvf) → NoFpTrap s fl →
      FpResult (.lfSfltD a b a2 b2) s [] fl (putBit s.sr 9 (fpLt (s.fpD a a2) (s.fpD b b2))) fun _ => True) ∧
    (Ready s (.lfSfleD a b a2 b2) → ∀ fl, fl = (flagIf (fpIsInf (s.fpD a a2) || fpIsInf (s.fpD b b2)) flagInf ||| flagIf (fpIsNan (s.fpD a a2) || fpIsNan (s.fpD b b2)) flagIvf) → NoFpTrap s fl →
      FpResult (.lfSfleD a b a2 b2) s [] fl (putBit s.sr 9 (fpLe (s.fpD a a2) (s.fpD b b2))) fun _ => True) ∧
    (Ready s (.lfSfueqD a b a2 b2) → ∀ fl, fl = (flagIf (fpIsInf (s.fpD a a2) || fpIsInf (s.fpD b b2)) flagInf) → NoFpTrap s fl →
      FpResult (.lfSfueqD a b a2 b2) s [] fl (putBit s.sr 9 (fpIsNan (s.fpD a a2) || fpIsNan (s.fpD b b2) || (fpEq (s.fpD a a2) (s.fpD b b2)))) fun _ => True) ∧
    (Ready s (.lfSfuneD a b a2 b2) → ∀ fl, fl = (flagIf (fpIsInf (s.fpD a a2) || fpIsInf (s.fpD b b2)) flagInf) → NoFpTrap s fl →
      FpResult (.lfSfuneD a b a2 b2) s [] fl (putBit s.sr 9 (fpIsNan (s.fpD a a2) || fpIsNan (s.fpD b b2) || (!fpEq (s.fpD a a2) (s.fpD b b2)))) fun _ => True) ∧
    (Ready s (.lfSfugtD a b a2 b2) → ∀ fl, fl = (flagIf (fpIsInf (s.fpD a a2) || fpIsInf (s.fpD b b2)) flagInf) → NoFpTrap s fl →
      FpResult (.lfSfugtD a b a2 b2) s [] fl (putBit s.sr 9 (fpIsNan (s.fpD a a2) || fpIsNan (s.fpD b b2) || (fpLt (s.fpD b b2) (s.fpD a a2)))) fun _ => True) ∧
    (Ready s (.lfSfugeD a b a2 b2) → ∀ fl, fl = (flagIf (fpIsInf (s.fpD a a2) || fpIsInf (s.fpD b b2)) flagInf) → NoFpTrap s fl →
      FpResult (.lfSfugeD a b a2 b2) s [] fl (putBit s.sr 9 (fpIsNan (s.fpD a a2) || fpIsNan (s.fpD b b2) || (fpLe (s.fpD b b2) (s.fpD a a2)))) fun _ => True) ∧
    (Ready s (.lfSfultD a b a2 b2) → ∀ fl, fl = (flagIf (fpIsInf (s.fpD a a2) || fpIsInf (s.fpD b b2)) flagInf) → NoFpTrap s fl →
      FpResult (.lfSfultD a b a2 b2) s [] fl (putBit s.sr 9 (fpIsNan (s.fpD a a2) || fpIsNan (s.fpD b b2) || (fpLt (s.fpD a a2) (s.fpD b b2)))) fun _ => True) ∧
    (Ready s (.lfSfuleD a b a2 b2) → ∀ fl, fl = (flagIf (fpIsInf (s.fpD a a2) || fpIsInf (s.fpD b b2)) flagInf) → NoFpTrap s fl →
      FpResult (.lfSfuleD a b a2 b2) s [] fl (putBit s.sr 9 (fpIsNan (s.fpD a a2) || fpIsNan (s.fpD b b2) || (fpLe (s.fpD a a2) (s.fpD b b2)))) fun _ => True) ∧
    (Ready s (.lfSfunD a b a2 b2) → ∀ fl, fl = (flagIf (fpIsInf (s.fpD a a2) || fpIsInf (s.fpD b b2)) flagInf) → NoFpTrap s fl →
      FpResult (.lfSfunD a b a2 b2) s [] fl (putBit s.sr 9 (fpIsNan (s.fpD a a2) || fpIsNan (s.fpD b b2))) fun _ => True)

/-- A floating-point instruction that raises a flag while FPCSR[FPEE] is 1 first writes its result and flags, then takes
the floating-point exception with EPCR the next instruction (R602, R885): every instruction of ORFPX32, ORFPX64 and
ORFPX64A32, the compares with SR[F], but lf.stod.d, which raises no flag (R646). -/
def Obligations.FloatException : Prop :=
  ∀ (s : State) (d a b : RegNo) (d2 a2 b2 : BitVec 1), s.fpee = true →
    (Ready s (.lfAddS d a b) → ∀ r, r = fpSum fpSingle s.rm (s.fpS a) (s.fpS b) →
      FpTrap (.lfAddS d a b) s [d] r.flags s.sr fun u => SingleValue s u d r ∧ NoFpmadd s u) ∧
    (Ready s (.lfSubS d a b) → ∀ r, r = fpSum fpSingle s.rm (s.fpS a) (fpNegate (s.fpS b)) →
      FpTrap (.lfSubS d a b) s [d] r.flags s.sr fun u => SingleValue s u d r ∧ NoFpmadd s u) ∧
    (Ready s (.lfMulS d a b) → ∀ r, r = fpProduct fpSingle s.rm (s.fpS a) (s.fpS b) →
      FpTrap (.lfMulS d a b) s [d] r.flags s.sr fun u => SingleValue s u d r ∧ NoFpmadd s u) ∧
    (Ready s (.lfDivS d a b) → ∀ r, r = fpQuotient fpSingle s.rm (s.fpS a) (s.fpS b) →
      FpTrap (.lfDivS d a b) s [d] r.flags s.sr fun u => SingleValue s u d r ∧ NoFpmadd s u) ∧
    (Ready s (.lfItofS d a) → ∀ r, r = fpRoundInt fpSingle s.rm ((s.reg a).setWidth 32).toInt 0 false →
      FpTrap (.lfItofS d a) s [d] r.flags s.sr fun u => SingleValue s u d r ∧ NoFpmadd s u) ∧
    (Ready s (.lfDtosD d a a2) → ∀ r, r = fpConvert fpSingle s.rm (s.fpD a a2) →
      FpTrap (.lfDtosD d a a2) s [d] r.flags s.sr fun u => SingleValue s u d r ∧ NoFpmadd s u) ∧
    (Ready s (.lfFtoiS d a) → ∀ z flags, fpToInt 32 (s.fpS a) = some (z, flags) →
      FpTrap (.lfFtoiS d a) s [d] flags s.sr fun u =>
        u.reg d = trunc s.cfg ((BitVec.ofInt 32 z).signExtend 64) ∧ NoFpmadd s u) ∧
    (Ready s (.lfFtoiS d a) → fpToInt 32 (s.fpS a) = none →
      FpTrap (.lfFtoiS d a) s [d] flagIvf s.sr fun u => u.fpmaddlo = s.fpmaddlo ∧ u.fpmaddhi = s.fpmaddhi) ∧
    (Ready s (.lfMaddS a b) → ∀ r, r = fpFused fpSingle s.rm (s.fpS a) (s.fpS b) (fpUnpack fpSingle s.fpmaddlo.toNat) →
      FpTrap (.lfMaddS a b) s [] r.flags s.sr fun u =>
        u.fpmaddlo = BitVec.ofNat 32 r.bits ∧ u.fpmaddhi = s.fpmaddhi ∧ u.free = s.free) ∧
    (Ready s (.lfAddD d a b d2 a2 b2) → ∀ r, r = fpSum fpDouble s.rm (s.fpD a a2) (s.fpD b b2) →
      FpTrap (.lfAddD d a b d2 a2 b2) s (doubleRegs s.cfg d d2) r.flags s.sr fun u => DoubleValue s u d d2 (BitVec.ofNat 64 r.bits) ∧ NoFpmadd s u) ∧
    (Ready s (.lfSubD d a b d2 a2 b2) → ∀ r, r = fpSum fpDouble s.rm (s.fpD a a2) (fpNegate (s.fpD b b2)) →
      FpTrap (.lfSubD d a b d2 a2 b2) s (doubleRegs s.cfg d d2) r.flags s.sr fun u => DoubleValue s u d d2 (BitVec.ofNat 64 r.bits) ∧ NoFpmadd s u) ∧
    (Ready s (.lfMulD d a b d2 a2 b2) → ∀ r, r = fpProduct fpDouble s.rm (s.fpD a a2) (s.fpD b b2) →
      FpTrap (.lfMulD d a b d2 a2 b2) s (doubleRegs s.cfg d d2) r.flags s.sr fun u => DoubleValue s u d d2 (BitVec.ofNat 64 r.bits) ∧ NoFpmadd s u) ∧
    (Ready s (.lfDivD d a b d2 a2 b2) → ∀ r, r = fpQuotient fpDouble s.rm (s.fpD a a2) (s.fpD b b2) →
      FpTrap (.lfDivD d a b d2 a2 b2) s (doubleRegs s.cfg d d2) r.flags s.sr fun u => DoubleValue s u d d2 (BitVec.ofNat 64 r.bits) ∧ NoFpmadd s u) ∧
    (Ready s (.lfItofD d a d2 a2) → ∀ r, r = fpRoundInt fpDouble s.rm (s.double a a2).toInt 0 false →
      FpTrap (.lfItofD d a d2 a2) s (doubleRegs s.cfg d d2) r.flags s.sr fun u => DoubleValue s u d d2 (BitVec.ofNat 64 r.bits) ∧ NoFpmadd s u) ∧
    (Ready s (.lfFtoiD d a d2 a2) → ∀ z flags, fpToInt 64 (s.fpD a a2) = some (z, flags) →
      FpTrap (.lfFtoiD d a d2 a2) s (doubleRegs s.cfg d d2) flags s.sr fun u =>
        DoubleValue s u d d2 (BitVec.ofInt 64 z) ∧ NoFpmadd s u) ∧
    (Ready s (.lfFtoiD d a d2 a2) → fpToInt 64 (s.fpD a a2) = none →
      FpTrap (.lfFtoiD d a d2 a2) s (doubleRegs s.cfg d d2) flagIvf s.sr fun u =>
        u.fpmaddlo = s.fpmaddlo ∧ u.fpmaddhi = s.fpmaddhi) ∧
    (Ready s (.lfMaddD a b a2 b2) →
      ∀ r, r = fpFused fpDouble s.rm (s.fpD a a2) (s.fpD b b2) (fpUnpack fpDouble (s.fpmaddhi ++ s.fpmaddlo).toNat) →
      FpTrap (.lfMaddD a b a2 b2) s [] r.flags s.sr fun u =>
        u.fpmaddhi ++ u.fpmaddlo = BitVec.ofNat 64 r.bits ∧ u.free = s.free) ∧
    (∀ x y, x = s.fpS a → y = s.fpS b → ∀ c ∈ ([(.lfSfeqS a b, fpEq x y), (.lfSfneS a b, !fpEq x y)] : List (Instr × Bool)), Ready s c.1 →
      FpTrap c.1 s [] (flagIf (fpIsInf x || fpIsInf y) flagInf ||| flagIf (fpIsSnan x || fpIsSnan y) flagIvf)
        (putBit s.sr 9 c.2) fun u => NoFpmadd s u) ∧
    (∀ x y, x = s.fpS a → y = s.fpS b → ∀ c ∈ ([(.lfSfgtS a b, fpLt y x), (.lfSfgeS a b, fpLe y x), (.lfSfltS a b, fpLt x y), (.lfSfleS a b, fpLe x y)] : List (Instr × Bool)), Ready s c.1 →
      FpTrap c.1 s [] (flagIf (fpIsInf x || fpIsInf y) flagInf ||| flagIf (fpIsNan x || fpIsNan y) flagIvf)
        (putBit s.sr 9 c.2) fun u => NoFpmadd s u) ∧
    (∀ x y, x = s.fpS a → y = s.fpS b → ∀ c ∈ ([(.lfSfueqS a b, fpIsNan x || fpIsNan y || (fpEq x y)), (.lfSfuneS a b, fpIsNan x || fpIsNan y || (!fpEq x y)),
        (.lfSfugtS a b, fpIsNan x || fpIsNan y || (fpLt y x)), (.lfSfugeS a b, fpIsNan x || fpIsNan y || (fpLe y x)),
        (.lfSfultS a b, fpIsNan x || fpIsNan y || (fpLt x y)), (.lfSfuleS a b, fpIsNan x || fpIsNan y || (fpLe x y)),
        (.lfSfunS a b, fpIsNan x || fpIsNan y)] : List (Instr × Bool)), Ready s c.1 →
      FpTrap c.1 s [] (flagIf (fpIsInf x || fpIsInf y) flagInf)
        (putBit s.sr 9 c.2) fun u => NoFpmadd s u) ∧
    (∀ x y, x = s.fpD a a2 → y = s.fpD b b2 → ∀ c ∈ ([(.lfSfeqD a b a2 b2, fpEq x y), (.lfSfneD a b a2 b2, !fpEq x y)] : List (Instr × Bool)), Ready s c.1 →
      FpTrap c.1 s [] (flagIf (fpIsInf x || fpIsInf y) flagInf ||| flagIf (fpIsSnan x || fpIsSnan y) flagIvf)
        (putBit s.sr 9 c.2) fun u => NoFpmadd s u) ∧
    (∀ x y, x = s.fpD a a2 → y = s.fpD b b2 → ∀ c ∈ ([(.lfSfgtD a b a2 b2, fpLt y x), (.lfSfgeD a b a2 b2, fpLe y x), (.lfSfltD a b a2 b2, fpLt x y), (.lfSfleD a b a2
        b2, fpLe x y)] : List (Instr × Bool)), Ready s c.1 →
      FpTrap c.1 s [] (flagIf (fpIsInf x || fpIsInf y) flagInf ||| flagIf (fpIsNan x || fpIsNan y) flagIvf)
        (putBit s.sr 9 c.2) fun u => NoFpmadd s u) ∧
    (∀ x y, x = s.fpD a a2 → y = s.fpD b b2 → ∀ c ∈ ([(.lfSfueqD a b a2 b2, fpIsNan x || fpIsNan y || (fpEq x y)), (.lfSfuneD a b a2 b2, fpIsNan x || fpIsNan y ||
        (!fpEq x y)), (.lfSfugtD a b a2 b2, fpIsNan x || fpIsNan y || (fpLt y x)), (.lfSfugeD a b a2 b2, fpIsNan x ||
        fpIsNan y || (fpLe y x)), (.lfSfultD a b a2 b2, fpIsNan x || fpIsNan y || (fpLt x y)), (.lfSfuleD a b a2 b2,
        fpIsNan x || fpIsNan y || (fpLe x y)), (.lfSfunD a b a2 b2, fpIsNan x || fpIsNan y)] : List (Instr × Bool)), Ready s c.1 →
      FpTrap c.1 s [] (flagIf (fpIsInf x || fpIsInf y) flagInf)
        (putBit s.sr 9 c.2) fun u => NoFpmadd s u)

/-- A NaN operand makes the sum, product or quotient the canonical quiet NaN and raises QNF, and IVF too exactly when an
operand is signalling (R602, R604). -/
def Obligations.NanOperands : Prop :=
  ∀ (rm : BitVec 2) (x y : FpVal), fpIsNan x = true ∨ fpIsNan y = true →
    ∀ f ∈ [fpSum, fpProduct, fpQuotient],
      (f fpSingle rm x y).bits = 0x7FC00000 ∧ (f fpDouble rm x y).bits = 0x7FF8000000000000 ∧
      (f fpSingle rm x y).flags = flagQnf ||| flagIf (fpIsSnan x || fpIsSnan y) flagIvf ∧
      (f fpDouble rm x y).flags = flagQnf ||| flagIf (fpIsSnan x || fpIsSnan y) flagIvf

/-- The vector additions, subtractions, averages, maxima, minima, the saturated product and the bit-wise operations,
element by element (R701, R702, R710-R717, R733, R746, R747, R771, R772, R775, R776, R778-R781, R800-R807, R815). -/
def Obligations.VectorArithmetic : Prop :=
  ∀ (s : State) (d a b : RegNo),
    (Ready s (.lvAddB d a b) →
      LanesB (.lvAddB d a b) s d fun k v => v = byteEl (s.reg a) k + byteEl (s.reg b) k) ∧
    (Ready s (.lvSubB d a b) →
      LanesB (.lvSubB d a b) s d fun k v => v = byteEl (s.reg a) k - byteEl (s.reg b) k) ∧
    (Ready s (.lvAdduB d a b) →
      LanesB (.lvAdduB d a b) s d fun k v => v = byteEl (s.reg a) k + byteEl (s.reg b) k) ∧
    (Ready s (.lvSubuB d a b) →
      LanesB (.lvSubuB d a b) s d fun k v => v = byteEl (s.reg a) k - byteEl (s.reg b) k) ∧
    (Ready s (.lvAddsB d a b) →
      LanesB (.lvAddsB d a b) s d fun k v => v.toInt = max (-128) (min 127 ((byteEl (s.reg a) k).toInt + (byteEl (s.reg b) k).toInt))) ∧
    (Ready s (.lvSubsB d a b) →
      LanesB (.lvSubsB d a b) s d fun k v => v.toInt = max (-128) (min 127 ((byteEl (s.reg a) k).toInt - (byteEl (s.reg b) k).toInt))) ∧
    (Ready s (.lvAddusB d a b) →
      LanesB (.lvAddusB d a b) s d fun k v => v.toNat = min 255 ((byteEl (s.reg a) k).toNat + (byteEl (s.reg b) k).toNat)) ∧
    (Ready s (.lvSubusB d a b) →
      LanesB (.lvSubusB d a b) s d fun k v => v.toNat = (byteEl (s.reg a) k).toNat - (byteEl (s.reg b) k).toNat) ∧
    (Ready s (.lvAvgB d a b) →
      LanesB (.lvAvgB d a b) s d fun k v => v.toInt = ((byteEl (s.reg a) k).toInt + (byteEl (s.reg b) k).toInt) / 2) ∧
    (Ready s (.lvMaxB d a b) →
      LanesB (.lvMaxB d a b) s d fun k v => v.toInt = max (byteEl (s.reg a) k).toInt (byteEl (s.reg b) k).toInt) ∧
    (Ready s (.lvMinB d a b) →
      LanesB (.lvMinB d a b) s d fun k v => v.toInt = min (byteEl (s.reg a) k).toInt (byteEl (s.reg b) k).toInt) ∧
    (Ready s (.lvAddH d a b) →
      LanesH (.lvAddH d a b) s d fun k v => v = halfEl (s.reg a) k + halfEl (s.reg b) k) ∧
    (Ready s (.lvSubH d a b) →
      LanesH (.lvSubH d a b) s d fun k v => v = halfEl (s.reg a) k - halfEl (s.reg b) k) ∧
    (Ready s (.lvAdduH d a b) →
      LanesH (.lvAdduH d a b) s d fun k v => v = halfEl (s.reg a) k + halfEl (s.reg b) k) ∧
    (Ready s (.lvSubuH d a b) →
      LanesH (.lvSubuH d a b) s d fun k v => v = halfEl (s.reg a) k - halfEl (s.reg b) k) ∧
    (Ready s (.lvAddsH d a b) →
      LanesH (.lvAddsH d a b) s d fun k v => v.toInt = max (-32768) (min 32767 ((halfEl (s.reg a) k).toInt + (halfEl (s.reg b) k).toInt))) ∧
    (Ready s (.lvSubsH d a b) →
      LanesH (.lvSubsH d a b) s d fun k v => v.toInt = max (-32768) (min 32767 ((halfEl (s.reg a) k).toInt - (halfEl (s.reg b) k).toInt))) ∧
    (Ready s (.lvAddusH d a b) →
      LanesH (.lvAddusH d a b) s d fun k v => v.toNat = min 65535 ((halfEl (s.reg a) k).toNat + (halfEl (s.reg b) k).toNat)) ∧
    (Ready s (.lvSubusH d a b) →
      LanesH (.lvSubusH d a b) s d fun k v => v.toNat = (halfEl (s.reg a) k).toNat - (halfEl (s.reg b) k).toNat) ∧
    (Ready s (.lvAvgH d a b) →
      LanesH (.lvAvgH d a b) s d fun k v => v.toInt = ((halfEl (s.reg a) k).toInt + (halfEl (s.reg b) k).toInt) / 2) ∧
    (Ready s (.lvMaxH d a b) →
      LanesH (.lvMaxH d a b) s d fun k v => v.toInt = max (halfEl (s.reg a) k).toInt (halfEl (s.reg b) k).toInt) ∧
    (Ready s (.lvMinH d a b) →
      LanesH (.lvMinH d a b) s d fun k v => v.toInt = min (halfEl (s.reg a) k).toInt (halfEl (s.reg b) k).toInt) ∧
    (Ready s (.lvMulsH d a b) →
      LanesH (.lvMulsH d a b) s d fun k v => v.toInt = max (-32768) (min 32767 ((halfEl (s.reg a) k).toInt * (halfEl (s.reg b) k).toInt))) ∧
    (Ready s (.lvAnd d a b) → RegResult (.lvAnd d a b) s d (s.reg a &&& s.reg b) s.sr) ∧
    (Ready s (.lvOr d a b) → RegResult (.lvOr d a b) s d (s.reg a ||| s.reg b) s.sr) ∧
    (Ready s (.lvXor d a b) → RegResult (.lvXor d a b) s d (s.reg a ^^^ s.reg b) s.sr) ∧
    (Ready s (.lvNand d a b) → RegResult (.lvNand d a b) s d (~~~(s.reg a &&& s.reg b)) s.sr) ∧
    (Ready s (.lvNor d a b) → RegResult (.lvNor d a b) s d (~~~(s.reg a ||| s.reg b)) s.sr)

/-- The vector compares: lv.all_* and lv.any_* put the truth for all or any element into every bit of rD and into SR[F]
(R720-R745); lv.cmp_* writes a mask for each element and no flag (R750-R762). Elements are signed (D51). -/
def Obligations.VectorCompares : Prop :=
  ∀ (s : State) (d a b : RegNo),
    (Ready s (.lvAllEqB d a b) → ∀ p : Bool, (p = true ↔ ∀ k, k < 8 → byteEl (s.reg a) k = byteEl (s.reg b) k) →
      RegResult (.lvAllEqB d a b) s d (if p then BitVec.allOnes 64 else 0) (putBit s.sr 9 p)) ∧
    (Ready s (.lvAnyEqB d a b) → ∀ p : Bool, (p = true ↔ ∃ k, k < 8 ∧ byteEl (s.reg a) k = byteEl (s.reg b) k) →
      RegResult (.lvAnyEqB d a b) s d (if p then BitVec.allOnes 64 else 0) (putBit s.sr 9 p)) ∧
    (Ready s (.lvCmpEqB d a b) →
      LanesB (.lvCmpEqB d a b) s d fun k v => v = if byteEl (s.reg a) k = byteEl (s.reg b) k then BitVec.allOnes 8 else 0) ∧
    (Ready s (.lvAllGeB d a b) → ∀ p : Bool, (p = true ↔ ∀ k, k < 8 → (byteEl (s.reg a) k).toInt ≥ (byteEl (s.reg b) k).toInt) →
      RegResult (.lvAllGeB d a b) s d (if p then BitVec.allOnes 64 else 0) (putBit s.sr 9 p)) ∧
    (Ready s (.lvAnyGeB d a b) → ∀ p : Bool, (p = true ↔ ∃ k, k < 8 ∧ (byteEl (s.reg a) k).toInt ≥ (byteEl (s.reg b) k).toInt) →
      RegResult (.lvAnyGeB d a b) s d (if p then BitVec.allOnes 64 else 0) (putBit s.sr 9 p)) ∧
    (Ready s (.lvCmpGeB d a b) →
      LanesB (.lvCmpGeB d a b) s d fun k v => v = if (byteEl (s.reg a) k).toInt ≥ (byteEl (s.reg b) k).toInt then BitVec.allOnes 8 else 0) ∧
    (Ready s (.lvAllGtB d a b) → ∀ p : Bool, (p = true ↔ ∀ k, k < 8 → (byteEl (s.reg a) k).toInt > (byteEl (s.reg b) k).toInt) →
      RegResult (.lvAllGtB d a b) s d (if p then BitVec.allOnes 64 else 0) (putBit s.sr 9 p)) ∧
    (Ready s (.lvAnyGtB d a b) → ∀ p : Bool, (p = true ↔ ∃ k, k < 8 ∧ (byteEl (s.reg a) k).toInt > (byteEl (s.reg b) k).toInt) →
      RegResult (.lvAnyGtB d a b) s d (if p then BitVec.allOnes 64 else 0) (putBit s.sr 9 p)) ∧
    (Ready s (.lvCmpGtB d a b) →
      LanesB (.lvCmpGtB d a b) s d fun k v => v = if (byteEl (s.reg a) k).toInt > (byteEl (s.reg b) k).toInt then BitVec.allOnes 8 else 0) ∧
    (Ready s (.lvAllLeB d a b) → ∀ p : Bool, (p = true ↔ ∀ k, k < 8 → (byteEl (s.reg a) k).toInt ≤ (byteEl (s.reg b) k).toInt) →
      RegResult (.lvAllLeB d a b) s d (if p then BitVec.allOnes 64 else 0) (putBit s.sr 9 p)) ∧
    (Ready s (.lvAnyLeB d a b) → ∀ p : Bool, (p = true ↔ ∃ k, k < 8 ∧ (byteEl (s.reg a) k).toInt ≤ (byteEl (s.reg b) k).toInt) →
      RegResult (.lvAnyLeB d a b) s d (if p then BitVec.allOnes 64 else 0) (putBit s.sr 9 p)) ∧
    (Ready s (.lvCmpLeB d a b) →
      LanesB (.lvCmpLeB d a b) s d fun k v => v = if (byteEl (s.reg a) k).toInt ≤ (byteEl (s.reg b) k).toInt then BitVec.allOnes 8 else 0) ∧
    (Ready s (.lvAllLtB d a b) → ∀ p : Bool, (p = true ↔ ∀ k, k < 8 → (byteEl (s.reg a) k).toInt < (byteEl (s.reg b) k).toInt) →
      RegResult (.lvAllLtB d a b) s d (if p then BitVec.allOnes 64 else 0) (putBit s.sr 9 p)) ∧
    (Ready s (.lvAnyLtB d a b) → ∀ p : Bool, (p = true ↔ ∃ k, k < 8 ∧ (byteEl (s.reg a) k).toInt < (byteEl (s.reg b) k).toInt) →
      RegResult (.lvAnyLtB d a b) s d (if p then BitVec.allOnes 64 else 0) (putBit s.sr 9 p)) ∧
    (Ready s (.lvCmpLtB d a b) →
      LanesB (.lvCmpLtB d a b) s d fun k v => v = if (byteEl (s.reg a) k).toInt < (byteEl (s.reg b) k).toInt then BitVec.allOnes 8 else 0) ∧
    (Ready s (.lvAllNeB d a b) → ∀ p : Bool, (p = true ↔ ∀ k, k < 8 → byteEl (s.reg a) k ≠ byteEl (s.reg b) k) →
      RegResult (.lvAllNeB d a b) s d (if p then BitVec.allOnes 64 else 0) (putBit s.sr 9 p)) ∧
    (Ready s (.lvAnyNeB d a b) → ∀ p : Bool, (p = true ↔ ∃ k, k < 8 ∧ byteEl (s.reg a) k ≠ byteEl (s.reg b) k) →
      RegResult (.lvAnyNeB d a b) s d (if p then BitVec.allOnes 64 else 0) (putBit s.sr 9 p)) ∧
    (Ready s (.lvCmpNeB d a b) →
      LanesB (.lvCmpNeB d a b) s d fun k v => v = if byteEl (s.reg a) k ≠ byteEl (s.reg b) k then BitVec.allOnes 8 else 0) ∧
    (Ready s (.lvAllEqH d a b) → ∀ p : Bool, (p = true ↔ ∀ k, k < 4 → halfEl (s.reg a) k = halfEl (s.reg b) k) →
      RegResult (.lvAllEqH d a b) s d (if p then BitVec.allOnes 64 else 0) (putBit s.sr 9 p)) ∧
    (Ready s (.lvAnyEqH d a b) → ∀ p : Bool, (p = true ↔ ∃ k, k < 4 ∧ halfEl (s.reg a) k = halfEl (s.reg b) k) →
      RegResult (.lvAnyEqH d a b) s d (if p then BitVec.allOnes 64 else 0) (putBit s.sr 9 p)) ∧
    (Ready s (.lvCmpEqH d a b) →
      LanesH (.lvCmpEqH d a b) s d fun k v => v = if halfEl (s.reg a) k = halfEl (s.reg b) k then BitVec.allOnes 16 else 0) ∧
    (Ready s (.lvAllGeH d a b) → ∀ p : Bool, (p = true ↔ ∀ k, k < 4 → (halfEl (s.reg a) k).toInt ≥ (halfEl (s.reg b) k).toInt) →
      RegResult (.lvAllGeH d a b) s d (if p then BitVec.allOnes 64 else 0) (putBit s.sr 9 p)) ∧
    (Ready s (.lvAnyGeH d a b) → ∀ p : Bool, (p = true ↔ ∃ k, k < 4 ∧ (halfEl (s.reg a) k).toInt ≥ (halfEl (s.reg b) k).toInt) →
      RegResult (.lvAnyGeH d a b) s d (if p then BitVec.allOnes 64 else 0) (putBit s.sr 9 p)) ∧
    (Ready s (.lvCmpGeH d a b) →
      LanesH (.lvCmpGeH d a b) s d fun k v => v = if (halfEl (s.reg a) k).toInt ≥ (halfEl (s.reg b) k).toInt then BitVec.allOnes 16 else 0) ∧
    (Ready s (.lvAllGtH d a b) → ∀ p : Bool, (p = true ↔ ∀ k, k < 4 → (halfEl (s.reg a) k).toInt > (halfEl (s.reg b) k).toInt) →
      RegResult (.lvAllGtH d a b) s d (if p then BitVec.allOnes 64 else 0) (putBit s.sr 9 p)) ∧
    (Ready s (.lvAnyGtH d a b) → ∀ p : Bool, (p = true ↔ ∃ k, k < 4 ∧ (halfEl (s.reg a) k).toInt > (halfEl (s.reg b) k).toInt) →
      RegResult (.lvAnyGtH d a b) s d (if p then BitVec.allOnes 64 else 0) (putBit s.sr 9 p)) ∧
    (Ready s (.lvCmpGtH d a b) →
      LanesH (.lvCmpGtH d a b) s d fun k v => v = if (halfEl (s.reg a) k).toInt > (halfEl (s.reg b) k).toInt then BitVec.allOnes 16 else 0) ∧
    (Ready s (.lvAllLeH d a b) → ∀ p : Bool, (p = true ↔ ∀ k, k < 4 → (halfEl (s.reg a) k).toInt ≤ (halfEl (s.reg b) k).toInt) →
      RegResult (.lvAllLeH d a b) s d (if p then BitVec.allOnes 64 else 0) (putBit s.sr 9 p)) ∧
    (Ready s (.lvAnyLeH d a b) → ∀ p : Bool, (p = true ↔ ∃ k, k < 4 ∧ (halfEl (s.reg a) k).toInt ≤ (halfEl (s.reg b) k).toInt) →
      RegResult (.lvAnyLeH d a b) s d (if p then BitVec.allOnes 64 else 0) (putBit s.sr 9 p)) ∧
    (Ready s (.lvCmpLeH d a b) →
      LanesH (.lvCmpLeH d a b) s d fun k v => v = if (halfEl (s.reg a) k).toInt ≤ (halfEl (s.reg b) k).toInt then BitVec.allOnes 16 else 0) ∧
    (Ready s (.lvAllLtH d a b) → ∀ p : Bool, (p = true ↔ ∀ k, k < 4 → (halfEl (s.reg a) k).toInt < (halfEl (s.reg b) k).toInt) →
      RegResult (.lvAllLtH d a b) s d (if p then BitVec.allOnes 64 else 0) (putBit s.sr 9 p)) ∧
    (Ready s (.lvAnyLtH d a b) → ∀ p : Bool, (p = true ↔ ∃ k, k < 4 ∧ (halfEl (s.reg a) k).toInt < (halfEl (s.reg b) k).toInt) →
      RegResult (.lvAnyLtH d a b) s d (if p then BitVec.allOnes 64 else 0) (putBit s.sr 9 p)) ∧
    (Ready s (.lvCmpLtH d a b) →
      LanesH (.lvCmpLtH d a b) s d fun k v => v = if (halfEl (s.reg a) k).toInt < (halfEl (s.reg b) k).toInt then BitVec.allOnes 16 else 0) ∧
    (Ready s (.lvAllNeH d a b) → ∀ p : Bool, (p = true ↔ ∀ k, k < 4 → halfEl (s.reg a) k ≠ halfEl (s.reg b) k) →
      RegResult (.lvAllNeH d a b) s d (if p then BitVec.allOnes 64 else 0) (putBit s.sr 9 p)) ∧
    (Ready s (.lvAnyNeH d a b) → ∀ p : Bool, (p = true ↔ ∃ k, k < 4 ∧ halfEl (s.reg a) k ≠ halfEl (s.reg b) k) →
      RegResult (.lvAnyNeH d a b) s d (if p then BitVec.allOnes 64 else 0) (putBit s.sr 9 p)) ∧
    (Ready s (.lvCmpNeH d a b) →
      LanesH (.lvCmpNeH d a b) s d fun k v => v = if halfEl (s.reg a) k ≠ halfEl (s.reg b) k then BitVec.allOnes 16 else 0)

/-- Merge, pack, unpack and permute: where each element of the result comes from, and how it is narrowed or widened (R701,
R773, R774, R782-R788, R813, R814). -/
def Obligations.VectorPackAndPermute : Prop :=
  ∀ (s : State) (d a b : RegNo),
    (Ready s (.lvMergeB d a b) →
      LanesB (.lvMergeB d a b) s d fun k v => v = if k % 2 = 0 then byteEl (s.reg b) k else byteEl (s.reg a) k) ∧
    (Ready s (.lvMergeH d a b) →
      LanesH (.lvMergeH d a b) s d fun k v => v = if k % 2 = 0 then halfEl (s.reg b) k else halfEl (s.reg a) k) ∧
    (Ready s (.lvPackB d a b) →
      LanesN (.lvPackB d a b) s d fun k v => ∀ x, x = (if k < 8 then byteEl (s.reg b) k else byteEl (s.reg a) (k - 8)) → v = x.extractLsb' 0 4) ∧
    (Ready s (.lvPacksB d a b) →
      LanesN (.lvPacksB d a b) s d fun k v => ∀ x, x = (if k < 8 then byteEl (s.reg b) k else byteEl (s.reg a) (k - 8)) → v.toInt = max (-8) (min 7 x.toInt)) ∧
    (Ready s (.lvPackusB d a b) →
      LanesN (.lvPackusB d a b) s d fun k v => ∀ x, x = (if k < 8 then byteEl (s.reg b) k else byteEl (s.reg a) (k - 8)) → v.toNat = min 15 x.toNat) ∧
    (Ready s (.lvPackH d a b) →
      LanesB (.lvPackH d a b) s d fun k v => ∀ x, x = (if k < 4 then halfEl (s.reg b) k else halfEl (s.reg a) (k - 4)) → v = x.extractLsb' 0 8) ∧
    (Ready s (.lvPacksH d a b) →
      LanesB (.lvPacksH d a b) s d fun k v => ∀ x, x = (if k < 4 then halfEl (s.reg b) k else halfEl (s.reg a) (k - 4)) → v.toInt = max (-128) (min 127 x.toInt)) ∧
    (Ready s (.lvPackusH d a b) →
      LanesB (.lvPackusH d a b) s d fun k v => ∀ x, x = (if k < 4 then halfEl (s.reg b) k else halfEl (s.reg a) (k - 4)) → v.toNat = min 255 x.toNat) ∧
    (Ready s (.lvUnpackB d a b) →
      LanesB (.lvUnpackB d a b) s d fun k v => v.toInt = (nibbleEl (s.reg a) k).toInt) ∧
    (Ready s (.lvUnpackH d a b) →
      LanesH (.lvUnpackH d a b) s d fun k v => v.toInt = (byteEl (s.reg a) k).toInt) ∧
    (Ready s (.lvPermN d a b) →
      LanesN (.lvPermN d a b) s d fun k v => v = nibbleEl (s.reg a) (nibbleEl (s.reg b) k).toNat)

/-- The vector shifts and rotates, element by element with the amount from the same element; lv.sll and lv.srl shift the
whole register by rB[2:0], which is the spec's own resolution C12 of 90_conflicts.md and an inference of the model
(log 40) (R789-R799). -/
def Obligations.VectorShifts : Prop :=
  ∀ (s : State) (d a b : RegNo),
    (Ready s (.lvSllB d a b) →
      LanesB (.lvSllB d a b) s d fun k v => ∀ n, n = (byteEl (s.reg b) k).toNat % 8 → v.toNat = (byteEl (s.reg a) k).toNat * 2 ^ n % 2 ^ 8) ∧
    (Ready s (.lvSrlB d a b) →
      LanesB (.lvSrlB d a b) s d fun k v => ∀ n, n = (byteEl (s.reg b) k).toNat % 8 → v.toNat = (byteEl (s.reg a) k).toNat / 2 ^ n) ∧
    (Ready s (.lvSraB d a b) →
      LanesB (.lvSraB d a b) s d fun k v => ∀ n, n = (byteEl (s.reg b) k).toNat % 8 → v.toInt = (byteEl (s.reg a) k).toInt / 2 ^ n) ∧
    (Ready s (.lvRlB d a b) →
      LanesB (.lvRlB d a b) s d fun k v => ∀ n, n = (byteEl (s.reg b) k).toNat % 8 → v.toNat = ((byteEl (s.reg a) k).toNat * 2 ^ n + (byteEl (s.reg a) k).toNat / 2 ^ (8 - n)) % 2 ^ 8) ∧
    (Ready s (.lvSllH d a b) →
      LanesH (.lvSllH d a b) s d fun k v => ∀ n, n = (halfEl (s.reg b) k).toNat % 16 → v.toNat = (halfEl (s.reg a) k).toNat * 2 ^ n % 2 ^ 16) ∧
    (Ready s (.lvSrlH d a b) →
      LanesH (.lvSrlH d a b) s d fun k v => ∀ n, n = (halfEl (s.reg b) k).toNat % 16 → v.toNat = (halfEl (s.reg a) k).toNat / 2 ^ n) ∧
    (Ready s (.lvSraH d a b) →
      LanesH (.lvSraH d a b) s d fun k v => ∀ n, n = (halfEl (s.reg b) k).toNat % 16 → v.toInt = (halfEl (s.reg a) k).toInt / 2 ^ n) ∧
    (Ready s (.lvRlH d a b) →
      LanesH (.lvRlH d a b) s d fun k v => ∀ n, n = (halfEl (s.reg b) k).toNat % 16 → v.toNat = ((halfEl (s.reg a) k).toNat * 2 ^ n + (halfEl (s.reg a) k).toNat / 2 ^ (16 - n)) % 2 ^ 16) ∧
    (Ready s (.lvSll d a b) → ∀ n, n = (s.reg b).toNat % 8 →
      RegResult (.lvSll d a b) s d (BitVec.ofNat 64 ((s.reg a).toNat * 2 ^ n)) s.sr) ∧
    (Ready s (.lvSrl d a b) → ∀ n, n = (s.reg b).toNat % 8 →
      RegResult (.lvSrl d a b) s d (BitVec.ofNat 64 ((s.reg a).toNat / 2 ^ n)) s.sr)

/-- lv.madds.h and lv.msubs.h: each 32-bit accumulator of VMACLO and VMACHI becomes the saturated sum or difference with
the product of its elements, and its low half goes to rD (R770, R777, D52). -/
def Obligations.VectorAccumulate : Prop :=
  ∀ (s : State) (d a b : RegNo),
    (Ready s (.lvMaddsH d a b) →
      ∃ t, exec (.lvMaddsH d a b) s = .next t
        ∧ (∀ k, k < 4 → ∀ p, p = (halfEl (s.reg a) k).toInt * (halfEl (s.reg b) k).toInt →
            (t.vacc k).toInt = max (-2147483648) (min 2147483647 (p + (s.vacc k).toInt)) ∧
            halfEl (t.reg d) k = (t.vacc k).extractLsb' 0 16)
        ∧ t.sr = s.sr ∧ GoesOn s t ∧ GprFrame s t [d] ∧ MemFrame s t []
        ∧ t = { s with gpr := t.gpr, vmaclo := t.vmaclo, vmachi := t.vmachi, pc := t.pc, ppc := t.ppc, ds := t.ds }) ∧
    (Ready s (.lvMsubsH d a b) →
      ∃ t, exec (.lvMsubsH d a b) s = .next t
        ∧ (∀ k, k < 4 → ∀ p, p = (halfEl (s.reg a) k).toInt * (halfEl (s.reg b) k).toInt →
            (t.vacc k).toInt = max (-2147483648) (min 2147483647 ((s.vacc k).toInt - p)) ∧
            halfEl (t.reg d) k = (t.vacc k).extractLsb' 0 16)
        ∧ t.sr = s.sr ∧ GoesOn s t ∧ GprFrame s t [d] ∧ MemFrame s t []
        ∧ t = { s with gpr := t.gpr, vmaclo := t.vmaclo, vmachi := t.vmachi, pc := t.pc, ppc := t.ppc, ds := t.ds })

/-- Address translation under software reload: the entry that hits and permits gives the physical address and marks itself
accessed, one that does not permit gives a page fault, and none a TLB miss (R264, R265). That a fault leaves every bit
as it was is decision D36, that the lowest hitting way counts D37, and what matches and is formed on XLEN = 64 rests
on the model's choice of log 15. -/
def Obligations.TranslationOutcomes : Prop :=
  ∀ (s : State) (k : AccKind) (ea : Word), s.translated k = true → (mmuConfig s.cfg k).htr = false →
    (findEntry s k ea = none → physical s k ea = .exc (if k = .fetch then .itlbMiss else .dtlbMiss) s) ∧
    (∀ e, findEntry s k ea = some e → ((s.mmu k).translateOf e).getLsbD (permitBit e k s.sm) = false →
      physical s k ea = .exc (if k = .fetch then .insnPageFault else .dataPageFault) s) ∧
    (∀ e, findEntry s k ea = some e → ((s.mmu k).translateOf e).getLsbD (permitBit e k s.sm) = true →
      ∃ s', physical s k ea = .ok (formPa s.cfg e ((s.mmu k).matchOf e) ((s.mmu k).translateOf e) ea) s'
        ∧ ((s'.mmu k).translateOf e).getLsbD 4 = true
        ∧ s' = { s with dmmu := s'.dmmu, immu := s'.immu })

/-- A load or store whose access raises an exception takes it with EEAR its effective address and does nothing else (R215,
R864, D36). The MMU on XLEN = 32: which entry translates an address (R263, R264, R267), which bit permits an access
(R106-R110, R264, R265), the physical address (R266), the hardware page table walk (R274-R276), the accessed and dirty
bits under software reload (R269), and what writes of xMMUCR and xTLBEIR do (R100, R102, R104). That xMMUCR keeps its
table base without a hardware walk too is the model's choice of log 38, and that an ATB entry with PS = 1 hits nothing
on XLEN = 32 that of log 15. -/
def Obligations.AccessExceptionsAndMmu : Prop :=
  (∀ (s s' : State) (i : Instr) (k : AccKind) (ea : Word) (n : Nat) (x : Exc), Ready s i →
    accessOf s i = some (k, ea, n) → accessPas k ea n s = .exc x s' →
    s' = s ∧ exec i s = .next (enter x s.pc (some ea) s)) ∧
  (∀ (s : State) (k : AccKind) (ea : Word), s.cfg.xlen = .x32 →
    (∀ w, TlbHit s k ea w → (∀ v, v < w → ¬TlbHit s k ea v) →
      findEntry s k ea = some (.tlb (w ++ setOf (mmuConfig s.cfg k) ea))) ∧
    ((∀ w, ¬TlbHit s k ea w) → ∀ e, AtbHit s k ea e → (∀ v, v < e → ¬AtbHit s k ea v) →
      findEntry s k ea = some (.atb e)) ∧
    ((∀ w, ¬TlbHit s k ea w) → (∀ e, ¬AtbHit s k ea e) → findEntry s k ea = none)) ∧
  (∀ (i : BitVec 9) (e : BitVec 2),
    (∀ slot ∈ [XlatSlot.tlb i, .atb e], permitBit slot .fetch true = 6 ∧ permitBit slot .fetch false = 7) ∧
    permitBit (.tlb i) .load true = 8 ∧ permitBit (.tlb i) .store true = 9 ∧
    permitBit (.tlb i) .load false = 6 ∧ permitBit (.tlb i) .store false = 7 ∧
    permitBit (.atb e) .load true = 6 ∧ permitBit (.atb e) .store true = 7 ∧
    permitBit (.atb e) .load false = 8 ∧ permitBit (.atb e) .store false = 9) ∧
  (∀ (c : Config) (i : BitVec 9) (e : BitVec 2) (mr tr : Word32) (ea : Word), c.xlen = .x32 →
    (mr.getLsbD 1 = false →
      formPa c (.tlb i) mr tr ea = (tr.toNat / 2 ^ 13 * 2 ^ 13 + ea.toNat % 2 ^ 13) % 2 ^ c.paBits) ∧
    (mr.getLsbD 1 = true →
      formPa c (.tlb i) mr tr ea = (tr.toNat / 2 ^ 24 * 2 ^ 24 + ea.toNat % 2 ^ 24) % 2 ^ c.paBits) ∧
    (mr.getLsbD 5 = false →
      formPa c (.atb e) mr tr ea = (tr.toNat / 2 ^ 21 * 2 ^ 24 + ea.toNat % 2 ^ 24) % 2 ^ c.paBits)) ∧
  (∀ (s : State) (k : AccKind) (ea : Word), s.cfg.xlen = .x32 → s.cfg.paBits = 32 → s.translated k = true →
    (mmuConfig s.cfg k).htr = true → s.cid = 0 → findEntry s k ea = none →
    (WalkFails s k ea → physical s k ea = .exc (if k = .fetch then .insnPageFault else .dataPageFault) s) ∧
    (∀ p level, WalkFinds s k ea p level →
      ((s.mmu k).pr.getLsbD (groupBit k s.sm (p.toNat / 2 ^ 6 % 8)) = false →
        ∃ s', physical s k ea = .exc (if k = .fetch then .insnPageFault else .dataPageFault) s') ∧
      ((s.mmu k).pr.getLsbD (groupBit k s.sm (p.toNat / 2 ^ 6 % 8)) = true →
        ∃ (s' : State) (w : BitVec 2) (i : BitVec 9),
          physical s k ea = .ok (if level = 1 then p.toNat / 2 ^ 21 * 2 ^ 24 + ea.toNat % 2 ^ 24
            else p.toNat / 2 ^ 10 * 2 ^ 13 + ea.toNat % 2 ^ 13) s'
          ∧ i = w ++ setOf (mmuConfig s.cfg k) ea ∧ w.toNat ≤ (mmuConfig s.cfg k).ntw.toNat
          ∧ ((s'.mmu k).tlbm.get i).toNat =
              ea.toNat / 2 ^ 13 % 2 ^ 19 * 2 ^ 13 + ((s.mmu k).tlbm.get i).toNat / 2 ^ 6 % 4 * 2 ^ 6
                + (if level = 1 then 3 else 1)
          ∧ ((s'.mmu k).tlbt.get i).toNat / 2 ^ 13 = p.toNat / 2 ^ 10
          ∧ ((s'.mmu k).tlbt.get i).toNat % 2 ^ 4 = p.toNat % 2 ^ 4 ∧ ((s'.mmu k).tlbt.get i).getLsbD 4 = true
          ∧ (∀ j, j ≠ i → (s'.mmu k).tlbm.get j = (s.mmu k).tlbm.get j ∧ (s'.mmu k).tlbt.get j = (s.mmu k).tlbt.get j)
          ∧ (s.cfg.htrWriteBack = false → s' = { s with dmmu := s'.dmmu, immu := s'.immu, free := s'.free })))) ∧
  (∀ (s : State) (k : AccKind) (ea : Word) (e : XlatSlot), s.translated k = true → (mmuConfig s.cfg k).htr = false →
    findEntry s k ea = some e → ((s.mmu k).translateOf e).getLsbD (permitBit e k s.sm) = true →
    ∃ (pa : Nat) (s' : State), physical s k ea = .ok pa s'
      ∧ (∀ x, (s'.mmu k).translateOf x =
          if x = e then (s.mmu k).translateOf e ||| (if k = .store then 0x30 else 0x10) else (s.mmu k).translateOf x)
      ∧ (∀ x, (s'.mmu k).matchOf x = (s.mmu k).matchOf x)
      ∧ (s'.mmu k).cr = (s.mmu k).cr ∧ (s'.mmu k).pr = (s.mmu k).pr) ∧
  (∀ (s t : State) (k : AccKind) (v : Word), t = writeReg s (.mmucr k) v →
    (t.mmu k).cr.toNat = v.toNat / 2 ^ 10 % 2 ^ 22 * 2 ^ 10
    ∧ (∀ i, (t.mmu k).tlbm.get i =
        if v.getLsbD 0 then (s.mmu k).tlbm.get i &&& 0xFFFFFFFE else (s.mmu k).tlbm.get i)
    ∧ t = s.setMmu k { s.mmu k with cr := (t.mmu k).cr, tlbm := (t.mmu k).tlbm }) ∧
  (∀ (s t : State) (k : AccKind) (v : Word), s.cfg.xlen = .x32 → t = writeReg s (.tlbeir k) v →
    (∀ (w : BitVec 2) (n : BitVec 7) (mr : Word32), mr = (s.mmu k).tlbm.get (w ++ n) →
      (t.mmu k).tlbm.get (w ++ n) =
        if w.toNat ≤ (mmuConfig s.cfg k).ntw.toNat ∧ n = setOf (mmuConfig s.cfg k) v
            ∧ mr.toNat / 2 ^ 13 = v.toNat / 2 ^ 13 % 2 ^ 19
        then mr &&& 0xFFFFFFFE else mr)
    ∧ t = s.setMmu k { s.mmu k with tlbm := (t.mmu k).tlbm })

/-- One step of the tick timer (R186) and its request (R187); PICSR as levels and latched edges, when a latch is set and
cleared, and the external interrupt request with and without a PIC (R181, R182, R890, R913); and what a load from a
status register of the OMPIC gives (R910, R912). -/
def Obligations.TimerInterruptsAndOmpic : Prop :=
  (∀ m c : Word32,
    ((timerStep (m, c)).1 =
      if c.toNat % 2 ^ 28 = m.toNat % 2 ^ 28 ∧ m.getLsbD 29 = true then m ||| 0x10000000 else m) ∧
    ((timerStep (m, c)).2 =
      match m.toNat / 2 ^ 30 with
      | 0 => c
      | 1 => if c.toNat % 2 ^ 28 = m.toNat % 2 ^ 28 then 0 else c + 1
      | 2 => if c.toNat % 2 ^ 28 = m.toNat % 2 ^ 28 then c else c + 1
      | _ => c + 1)) ∧
  (∀ s : State,
    (timerRequest s = true ↔ s.cfg.hasTt = true ∧ s.ttmr.getLsbD 28 = true) ∧
    (∀ n, n < 32 → (picStatus s).getLsbD n = if s.cfg.picEdge.getLsbD n then s.picLatch.getLsbD n else lineLevel s n) ∧
    (s.cfg.hasPic = true → (irqRequest s = true ↔ ∃ n, (picStatus s).getLsbD n = true ∧ s.picmr.getLsbD n = true)) ∧
    (s.cfg.hasPic = false → irqRequest s = lineLevel s 0) ∧
    (∀ n, n < 32 →
      (envStep s).picLatch.getLsbD n = (s.picLatch.getLsbD n || (lineLevel (envStep s) n && !s.irqSeen.getLsbD n)) ∧
      (envStep s).irqSeen.getLsbD n = lineLevel (envStep s) n) ∧
    (∀ (v : Word) (t : State), t = writeReg s .picsr v →
      (∀ n, n < 32 →
        t.picLatch.getLsbD n = (s.picLatch.getLsbD n && !(s.cfg.picEdge.getLsbD n && v.getLsbD n))) ∧
      t = { s with picLatch := t.picLatch })) ∧
  (∀ (s s' : State) (d a : RegNo) (i : BitVec 16) (pas : List Nat) (base core : Nat),
    accessPas .load (s.addr a i) 4 s = .ok pas s' → ompicAccess s.cfg pas = some (some base) →
    pas.headD 0 = base + 8 * core + 4 → s.littleEndian = false →
    ∀ j, j = .lLwz d a i ∨ j = .lLws d a i ∨ j = .lLwa d a i ∨ j = .lLf d a i → Ready s j →
    ∃ t, exec j s = .next t
      ∧ (t.reg d).getLsbD 30 = (ompicSlot s core).pend ∧ (t.reg d).extractLsb' 16 14 = (ompicSlot s core).src
      ∧ (t.reg d).extractLsb' 0 16 = (ompicSlot s core).data
      ∧ t.sr = s.sr ∧ GoesOn s t ∧ GprFrame s t [d] ∧ MemFrame s' t []
      ∧ (t.resv = if j = .lLwa d a i then some (base + 8 * core + 4) else s'.resv)
      ∧ t = { s' with gpr := t.gpr, resv := t.resv, free := t.free, acc := t.acc, pc := t.pc, ppc := t.ppc, ds := t.ds })

/-- A word store to a core's OMPIC control register: the acknowledge clears that core's request first, then the message is
delivered to the destination core, if there is one; it changes no byte of memory (R911-R913). -/
def Obligations.OmpicMessages : Prop :=
  ∀ (s s' : State) (a b : RegNo) (i : BitVec 16) (pas : List Nat) (base core : Nat),
    sparseWf emptySlot s.ompic = true → Ready s (.lSw a b i) →
    accessPas .store (s.addr a i) 4 s = .ok pas s' → ompicAccess s.cfg pas = some (some base) →
    pas.headD 0 = base + 8 * core → ∀ w : Word32, s.littleEndian = false → w = (s.reg b).setWidth 32 →
    ∃ t, exec (.lSw a b i) s = .next t ∧ GoesOn s t ∧ GprFrame s t [] ∧ MemFrame s' t [] ∧ t.sr = s.sr
      ∧ (w.getLsbD 30 = true → (w.extractLsb' 16 14).toNat < s.cfg.numCores →
          ompicSlot t (w.extractLsb' 16 14).toNat =
            { pend := true, src := BitVec.ofNat 14 core, data := w.extractLsb' 0 16 })
      ∧ (w.getLsbD 31 = true → (w.getLsbD 30 = false ∨ (w.extractLsb' 16 14).toNat ≠ core) →
          (ompicSlot t core).pend = false)
      ∧ (∀ n, (n ≠ core ∨ w.getLsbD 31 = false) → (n ≠ (w.extractLsb' 16 14).toNat ∨ w.getLsbD 30 = false) →
          ompicSlot t n = ompicSlot s n)
end

