-- ==== Sys2Proof/Laws/Bank.lean ====
section
/-! SUPPORT. Reading a register file after writing it. -/

namespace Sys2Proof.Machine

@[simp] theorem Bank.get_set_self {α : Type} {n : Nat} (b : Bank α n) (i : BitVec n) (v : α) :
    (b.set i v).get i = v := by
  simp [Bank.get, Bank.set]

theorem Bank.get_set_ne {α : Type} {n : Nat} (b : Bank α n) (i j : BitVec n) (v : α) (h : j ≠ i) :
    (b.set i v).get j = b.get j := by
  have : i.toNat ≠ j.toNat := fun e => h (BitVec.eq_of_toNat_eq e.symm)
  simp [Bank.get, Bank.set, this]

@[simp] theorem Bank.get_replicate {α : Type} {n : Nat} (v : α) (i : BitVec n) : (Bank.replicate n v).get i = v := by
  simp [Bank.get, Bank.replicate]

@[simp] theorem Bank.get_map {α : Type} {n : Nat} (f : α → α) (b : Bank α n) (i : BitVec n) :
    (b.map f).get i = f (b.get i) := by
  simp [Bank.get, Bank.map]

end Sys2Proof.Machine
end

