-- ==== Sys2Proof/Laws/State.lean ====
section
/-! SUPPORT. One lemma for every field of every named update of the state. Generated once; no later proof unfolds a
record update. -/

namespace Sys2Proof.Machine

@[simp] theorem State.setReg_cfg (s : State) (r : RegNo) (v : Word) : (s.setReg r v).cfg = s.cfg := rfl
@[simp] theorem State.setReg_gpr (s : State) (r : RegNo) (v : Word) : (s.setReg r v).gpr = s.gpr.set (gprIndex s.ctx r) (trunc s.cfg v) := rfl
@[simp] theorem State.setReg_pc (s : State) (r : RegNo) (v : Word) : (s.setReg r v).pc = s.pc := rfl
@[simp] theorem State.setReg_ppc (s : State) (r : RegNo) (v : Word) : (s.setReg r v).ppc = s.ppc := rfl
@[simp] theorem State.setReg_ds (s : State) (r : RegNo) (v : Word) : (s.setReg r v).ds = s.ds := rfl
@[simp] theorem State.setReg_sr (s : State) (r : RegNo) (v : Word) : (s.setReg r v).sr = s.sr := rfl
@[simp] theorem State.setReg_epcr (s : State) (r : RegNo) (v : Word) : (s.setReg r v).epcr = s.epcr := rfl
@[simp] theorem State.setReg_eear (s : State) (r : RegNo) (v : Word) : (s.setReg r v).eear = s.eear := rfl
@[simp] theorem State.setReg_esr (s : State) (r : RegNo) (v : Word) : (s.setReg r v).esr = s.esr := rfl
@[simp] theorem State.setReg_evbar (s : State) (r : RegNo) (v : Word) : (s.setReg r v).evbar = s.evbar := rfl
@[simp] theorem State.setReg_aecr (s : State) (r : RegNo) (v : Word) : (s.setReg r v).aecr = s.aecr := rfl
@[simp] theorem State.setReg_aesr (s : State) (r : RegNo) (v : Word) : (s.setReg r v).aesr = s.aesr := rfl
@[simp] theorem State.setReg_fpcsr (s : State) (r : RegNo) (v : Word) : (s.setReg r v).fpcsr = s.fpcsr := rfl
@[simp] theorem State.setReg_maclo (s : State) (r : RegNo) (v : Word) : (s.setReg r v).maclo = s.maclo := rfl
@[simp] theorem State.setReg_machi (s : State) (r : RegNo) (v : Word) : (s.setReg r v).machi = s.machi := rfl
@[simp] theorem State.setReg_fpmaddlo (s : State) (r : RegNo) (v : Word) : (s.setReg r v).fpmaddlo = s.fpmaddlo := rfl
@[simp] theorem State.setReg_fpmaddhi (s : State) (r : RegNo) (v : Word) : (s.setReg r v).fpmaddhi = s.fpmaddhi := rfl
@[simp] theorem State.setReg_vmaclo (s : State) (r : RegNo) (v : Word) : (s.setReg r v).vmaclo = s.vmaclo := rfl
@[simp] theorem State.setReg_vmachi (s : State) (r : RegNo) (v : Word) : (s.setReg r v).vmachi = s.vmachi := rfl
@[simp] theorem State.setReg_resv (s : State) (r : RegNo) (v : Word) : (s.setReg r v).resv = s.resv := rfl
@[simp] theorem State.setReg_dmmu (s : State) (r : RegNo) (v : Word) : (s.setReg r v).dmmu = s.dmmu := rfl
@[simp] theorem State.setReg_immu (s : State) (r : RegNo) (v : Word) : (s.setReg r v).immu = s.immu := rfl
@[simp] theorem State.setReg_dccr (s : State) (r : RegNo) (v : Word) : (s.setReg r v).dccr = s.dccr := rfl
@[simp] theorem State.setReg_iccr (s : State) (r : RegNo) (v : Word) : (s.setReg r v).iccr = s.iccr := rfl
@[simp] theorem State.setReg_dbg (s : State) (r : RegNo) (v : Word) : (s.setReg r v).dbg = s.dbg := rfl
@[simp] theorem State.setReg_pccr (s : State) (r : RegNo) (v : Word) : (s.setReg r v).pccr = s.pccr := rfl
@[simp] theorem State.setReg_pcmr (s : State) (r : RegNo) (v : Word) : (s.setReg r v).pcmr = s.pcmr := rfl
@[simp] theorem State.setReg_pmr (s : State) (r : RegNo) (v : Word) : (s.setReg r v).pmr = s.pmr := rfl
@[simp] theorem State.setReg_status (s : State) (r : RegNo) (v : Word) : (s.setReg r v).status = s.status := rfl
@[simp] theorem State.setReg_picmr (s : State) (r : RegNo) (v : Word) : (s.setReg r v).picmr = s.picmr := rfl
@[simp] theorem State.setReg_picLatch (s : State) (r : RegNo) (v : Word) : (s.setReg r v).picLatch = s.picLatch := rfl
@[simp] theorem State.setReg_irqIn (s : State) (r : RegNo) (v : Word) : (s.setReg r v).irqIn = s.irqIn := rfl
@[simp] theorem State.setReg_irqSeen (s : State) (r : RegNo) (v : Word) : (s.setReg r v).irqSeen = s.irqSeen := rfl
@[simp] theorem State.setReg_ttmr (s : State) (r : RegNo) (v : Word) : (s.setReg r v).ttmr = s.ttmr := rfl
@[simp] theorem State.setReg_ttcr (s : State) (r : RegNo) (v : Word) : (s.setReg r v).ttcr = s.ttcr := rfl
@[simp] theorem State.setReg_ompic (s : State) (r : RegNo) (v : Word) : (s.setReg r v).ompic = s.ompic := rfl
@[simp] theorem State.setReg_mem (s : State) (r : RegNo) (v : Word) : (s.setReg r v).mem = s.mem := rfl
@[simp] theorem State.setReg_env (s : State) (r : RegNo) (v : Word) : (s.setReg r v).env = s.env := rfl
@[simp] theorem State.setReg_extWp (s : State) (r : RegNo) (v : Word) : (s.setReg r v).extWp = s.extWp := rfl
@[simp] theorem State.setReg_free (s : State) (r : RegNo) (v : Word) : (s.setReg r v).free = s.free := rfl
@[simp] theorem State.setReg_dbgPending (s : State) (r : RegNo) (v : Word) : (s.setReg r v).dbgPending = s.dbgPending := rfl
@[simp] theorem State.setReg_acc (s : State) (r : RegNo) (v : Word) : (s.setReg r v).acc = s.acc := rfl
@[simp] theorem State.setReg_exc (s : State) (r : RegNo) (v : Word) : (s.setReg r v).exc = s.exc := rfl

@[simp] theorem State.setF_cfg (s : State) (b : Bool) : (s.setF b).cfg = s.cfg := rfl
@[simp] theorem State.setF_gpr (s : State) (b : Bool) : (s.setF b).gpr = s.gpr := rfl
@[simp] theorem State.setF_pc (s : State) (b : Bool) : (s.setF b).pc = s.pc := rfl
@[simp] theorem State.setF_ppc (s : State) (b : Bool) : (s.setF b).ppc = s.ppc := rfl
@[simp] theorem State.setF_ds (s : State) (b : Bool) : (s.setF b).ds = s.ds := rfl
@[simp] theorem State.setF_sr (s : State) (b : Bool) : (s.setF b).sr = putBit s.sr 9 b := rfl
@[simp] theorem State.setF_epcr (s : State) (b : Bool) : (s.setF b).epcr = s.epcr := rfl
@[simp] theorem State.setF_eear (s : State) (b : Bool) : (s.setF b).eear = s.eear := rfl
@[simp] theorem State.setF_esr (s : State) (b : Bool) : (s.setF b).esr = s.esr := rfl
@[simp] theorem State.setF_evbar (s : State) (b : Bool) : (s.setF b).evbar = s.evbar := rfl
@[simp] theorem State.setF_aecr (s : State) (b : Bool) : (s.setF b).aecr = s.aecr := rfl
@[simp] theorem State.setF_aesr (s : State) (b : Bool) : (s.setF b).aesr = s.aesr := rfl
@[simp] theorem State.setF_fpcsr (s : State) (b : Bool) : (s.setF b).fpcsr = s.fpcsr := rfl
@[simp] theorem State.setF_maclo (s : State) (b : Bool) : (s.setF b).maclo = s.maclo := rfl
@[simp] theorem State.setF_machi (s : State) (b : Bool) : (s.setF b).machi = s.machi := rfl
@[simp] theorem State.setF_fpmaddlo (s : State) (b : Bool) : (s.setF b).fpmaddlo = s.fpmaddlo := rfl
@[simp] theorem State.setF_fpmaddhi (s : State) (b : Bool) : (s.setF b).fpmaddhi = s.fpmaddhi := rfl
@[simp] theorem State.setF_vmaclo (s : State) (b : Bool) : (s.setF b).vmaclo = s.vmaclo := rfl
@[simp] theorem State.setF_vmachi (s : State) (b : Bool) : (s.setF b).vmachi = s.vmachi := rfl
@[simp] theorem State.setF_resv (s : State) (b : Bool) : (s.setF b).resv = s.resv := rfl
@[simp] theorem State.setF_dmmu (s : State) (b : Bool) : (s.setF b).dmmu = s.dmmu := rfl
@[simp] theorem State.setF_immu (s : State) (b : Bool) : (s.setF b).immu = s.immu := rfl
@[simp] theorem State.setF_dccr (s : State) (b : Bool) : (s.setF b).dccr = s.dccr := rfl
@[simp] theorem State.setF_iccr (s : State) (b : Bool) : (s.setF b).iccr = s.iccr := rfl
@[simp] theorem State.setF_dbg (s : State) (b : Bool) : (s.setF b).dbg = s.dbg := rfl
@[simp] theorem State.setF_pccr (s : State) (b : Bool) : (s.setF b).pccr = s.pccr := rfl
@[simp] theorem State.setF_pcmr (s : State) (b : Bool) : (s.setF b).pcmr = s.pcmr := rfl
@[simp] theorem State.setF_pmr (s : State) (b : Bool) : (s.setF b).pmr = s.pmr := rfl
@[simp] theorem State.setF_status (s : State) (b : Bool) : (s.setF b).status = s.status := rfl
@[simp] theorem State.setF_picmr (s : State) (b : Bool) : (s.setF b).picmr = s.picmr := rfl
@[simp] theorem State.setF_picLatch (s : State) (b : Bool) : (s.setF b).picLatch = s.picLatch := rfl
@[simp] theorem State.setF_irqIn (s : State) (b : Bool) : (s.setF b).irqIn = s.irqIn := rfl
@[simp] theorem State.setF_irqSeen (s : State) (b : Bool) : (s.setF b).irqSeen = s.irqSeen := rfl
@[simp] theorem State.setF_ttmr (s : State) (b : Bool) : (s.setF b).ttmr = s.ttmr := rfl
@[simp] theorem State.setF_ttcr (s : State) (b : Bool) : (s.setF b).ttcr = s.ttcr := rfl
@[simp] theorem State.setF_ompic (s : State) (b : Bool) : (s.setF b).ompic = s.ompic := rfl
@[simp] theorem State.setF_mem (s : State) (b : Bool) : (s.setF b).mem = s.mem := rfl
@[simp] theorem State.setF_env (s : State) (b : Bool) : (s.setF b).env = s.env := rfl
@[simp] theorem State.setF_extWp (s : State) (b : Bool) : (s.setF b).extWp = s.extWp := rfl
@[simp] theorem State.setF_free (s : State) (b : Bool) : (s.setF b).free = s.free := rfl
@[simp] theorem State.setF_dbgPending (s : State) (b : Bool) : (s.setF b).dbgPending = s.dbgPending := rfl
@[simp] theorem State.setF_acc (s : State) (b : Bool) : (s.setF b).acc = s.acc := rfl
@[simp] theorem State.setF_exc (s : State) (b : Bool) : (s.setF b).exc = s.exc := rfl

@[simp] theorem State.setCy_cfg (s : State) (b : Bool) : (s.setCy b).cfg = s.cfg := rfl
@[simp] theorem State.setCy_gpr (s : State) (b : Bool) : (s.setCy b).gpr = s.gpr := rfl
@[simp] theorem State.setCy_pc (s : State) (b : Bool) : (s.setCy b).pc = s.pc := rfl
@[simp] theorem State.setCy_ppc (s : State) (b : Bool) : (s.setCy b).ppc = s.ppc := rfl
@[simp] theorem State.setCy_ds (s : State) (b : Bool) : (s.setCy b).ds = s.ds := rfl
@[simp] theorem State.setCy_sr (s : State) (b : Bool) : (s.setCy b).sr = putBit s.sr 10 b := rfl
@[simp] theorem State.setCy_epcr (s : State) (b : Bool) : (s.setCy b).epcr = s.epcr := rfl
@[simp] theorem State.setCy_eear (s : State) (b : Bool) : (s.setCy b).eear = s.eear := rfl
@[simp] theorem State.setCy_esr (s : State) (b : Bool) : (s.setCy b).esr = s.esr := rfl
@[simp] theorem State.setCy_evbar (s : State) (b : Bool) : (s.setCy b).evbar = s.evbar := rfl
@[simp] theorem State.setCy_aecr (s : State) (b : Bool) : (s.setCy b).aecr = s.aecr := rfl
@[simp] theorem State.setCy_aesr (s : State) (b : Bool) : (s.setCy b).aesr = s.aesr := rfl
@[simp] theorem State.setCy_fpcsr (s : State) (b : Bool) : (s.setCy b).fpcsr = s.fpcsr := rfl
@[simp] theorem State.setCy_maclo (s : State) (b : Bool) : (s.setCy b).maclo = s.maclo := rfl
@[simp] theorem State.setCy_machi (s : State) (b : Bool) : (s.setCy b).machi = s.machi := rfl
@[simp] theorem State.setCy_fpmaddlo (s : State) (b : Bool) : (s.setCy b).fpmaddlo = s.fpmaddlo := rfl
@[simp] theorem State.setCy_fpmaddhi (s : State) (b : Bool) : (s.setCy b).fpmaddhi = s.fpmaddhi := rfl
@[simp] theorem State.setCy_vmaclo (s : State) (b : Bool) : (s.setCy b).vmaclo = s.vmaclo := rfl
@[simp] theorem State.setCy_vmachi (s : State) (b : Bool) : (s.setCy b).vmachi = s.vmachi := rfl
@[simp] theorem State.setCy_resv (s : State) (b : Bool) : (s.setCy b).resv = s.resv := rfl
@[simp] theorem State.setCy_dmmu (s : State) (b : Bool) : (s.setCy b).dmmu = s.dmmu := rfl
@[simp] theorem State.setCy_immu (s : State) (b : Bool) : (s.setCy b).immu = s.immu := rfl
@[simp] theorem State.setCy_dccr (s : State) (b : Bool) : (s.setCy b).dccr = s.dccr := rfl
@[simp] theorem State.setCy_iccr (s : State) (b : Bool) : (s.setCy b).iccr = s.iccr := rfl
@[simp] theorem State.setCy_dbg (s : State) (b : Bool) : (s.setCy b).dbg = s.dbg := rfl
@[simp] theorem State.setCy_pccr (s : State) (b : Bool) : (s.setCy b).pccr = s.pccr := rfl
@[simp] theorem State.setCy_pcmr (s : State) (b : Bool) : (s.setCy b).pcmr = s.pcmr := rfl
@[simp] theorem State.setCy_pmr (s : State) (b : Bool) : (s.setCy b).pmr = s.pmr := rfl
@[simp] theorem State.setCy_status (s : State) (b : Bool) : (s.setCy b).status = s.status := rfl
@[simp] theorem State.setCy_picmr (s : State) (b : Bool) : (s.setCy b).picmr = s.picmr := rfl
@[simp] theorem State.setCy_picLatch (s : State) (b : Bool) : (s.setCy b).picLatch = s.picLatch := rfl
@[simp] theorem State.setCy_irqIn (s : State) (b : Bool) : (s.setCy b).irqIn = s.irqIn := rfl
@[simp] theorem State.setCy_irqSeen (s : State) (b : Bool) : (s.setCy b).irqSeen = s.irqSeen := rfl
@[simp] theorem State.setCy_ttmr (s : State) (b : Bool) : (s.setCy b).ttmr = s.ttmr := rfl
@[simp] theorem State.setCy_ttcr (s : State) (b : Bool) : (s.setCy b).ttcr = s.ttcr := rfl
@[simp] theorem State.setCy_ompic (s : State) (b : Bool) : (s.setCy b).ompic = s.ompic := rfl
@[simp] theorem State.setCy_mem (s : State) (b : Bool) : (s.setCy b).mem = s.mem := rfl
@[simp] theorem State.setCy_env (s : State) (b : Bool) : (s.setCy b).env = s.env := rfl
@[simp] theorem State.setCy_extWp (s : State) (b : Bool) : (s.setCy b).extWp = s.extWp := rfl
@[simp] theorem State.setCy_free (s : State) (b : Bool) : (s.setCy b).free = s.free := rfl
@[simp] theorem State.setCy_dbgPending (s : State) (b : Bool) : (s.setCy b).dbgPending = s.dbgPending := rfl
@[simp] theorem State.setCy_acc (s : State) (b : Bool) : (s.setCy b).acc = s.acc := rfl
@[simp] theorem State.setCy_exc (s : State) (b : Bool) : (s.setCy b).exc = s.exc := rfl

@[simp] theorem State.setOv_cfg (s : State) (b : Bool) : (s.setOv b).cfg = s.cfg := rfl
@[simp] theorem State.setOv_gpr (s : State) (b : Bool) : (s.setOv b).gpr = s.gpr := rfl
@[simp] theorem State.setOv_pc (s : State) (b : Bool) : (s.setOv b).pc = s.pc := rfl
@[simp] theorem State.setOv_ppc (s : State) (b : Bool) : (s.setOv b).ppc = s.ppc := rfl
@[simp] theorem State.setOv_ds (s : State) (b : Bool) : (s.setOv b).ds = s.ds := rfl
@[simp] theorem State.setOv_sr (s : State) (b : Bool) : (s.setOv b).sr = putBit s.sr 11 b := rfl
@[simp] theorem State.setOv_epcr (s : State) (b : Bool) : (s.setOv b).epcr = s.epcr := rfl
@[simp] theorem State.setOv_eear (s : State) (b : Bool) : (s.setOv b).eear = s.eear := rfl
@[simp] theorem State.setOv_esr (s : State) (b : Bool) : (s.setOv b).esr = s.esr := rfl
@[simp] theorem State.setOv_evbar (s : State) (b : Bool) : (s.setOv b).evbar = s.evbar := rfl
@[simp] theorem State.setOv_aecr (s : State) (b : Bool) : (s.setOv b).aecr = s.aecr := rfl
@[simp] theorem State.setOv_aesr (s : State) (b : Bool) : (s.setOv b).aesr = s.aesr := rfl
@[simp] theorem State.setOv_fpcsr (s : State) (b : Bool) : (s.setOv b).fpcsr = s.fpcsr := rfl
@[simp] theorem State.setOv_maclo (s : State) (b : Bool) : (s.setOv b).maclo = s.maclo := rfl
@[simp] theorem State.setOv_machi (s : State) (b : Bool) : (s.setOv b).machi = s.machi := rfl
@[simp] theorem State.setOv_fpmaddlo (s : State) (b : Bool) : (s.setOv b).fpmaddlo = s.fpmaddlo := rfl
@[simp] theorem State.setOv_fpmaddhi (s : State) (b : Bool) : (s.setOv b).fpmaddhi = s.fpmaddhi := rfl
@[simp] theorem State.setOv_vmaclo (s : State) (b : Bool) : (s.setOv b).vmaclo = s.vmaclo := rfl
@[simp] theorem State.setOv_vmachi (s : State) (b : Bool) : (s.setOv b).vmachi = s.vmachi := rfl
@[simp] theorem State.setOv_resv (s : State) (b : Bool) : (s.setOv b).resv = s.resv := rfl
@[simp] theorem State.setOv_dmmu (s : State) (b : Bool) : (s.setOv b).dmmu = s.dmmu := rfl
@[simp] theorem State.setOv_immu (s : State) (b : Bool) : (s.setOv b).immu = s.immu := rfl
@[simp] theorem State.setOv_dccr (s : State) (b : Bool) : (s.setOv b).dccr = s.dccr := rfl
@[simp] theorem State.setOv_iccr (s : State) (b : Bool) : (s.setOv b).iccr = s.iccr := rfl
@[simp] theorem State.setOv_dbg (s : State) (b : Bool) : (s.setOv b).dbg = s.dbg := rfl
@[simp] theorem State.setOv_pccr (s : State) (b : Bool) : (s.setOv b).pccr = s.pccr := rfl
@[simp] theorem State.setOv_pcmr (s : State) (b : Bool) : (s.setOv b).pcmr = s.pcmr := rfl
@[simp] theorem State.setOv_pmr (s : State) (b : Bool) : (s.setOv b).pmr = s.pmr := rfl
@[simp] theorem State.setOv_status (s : State) (b : Bool) : (s.setOv b).status = s.status := rfl
@[simp] theorem State.setOv_picmr (s : State) (b : Bool) : (s.setOv b).picmr = s.picmr := rfl
@[simp] theorem State.setOv_picLatch (s : State) (b : Bool) : (s.setOv b).picLatch = s.picLatch := rfl
@[simp] theorem State.setOv_irqIn (s : State) (b : Bool) : (s.setOv b).irqIn = s.irqIn := rfl
@[simp] theorem State.setOv_irqSeen (s : State) (b : Bool) : (s.setOv b).irqSeen = s.irqSeen := rfl
@[simp] theorem State.setOv_ttmr (s : State) (b : Bool) : (s.setOv b).ttmr = s.ttmr := rfl
@[simp] theorem State.setOv_ttcr (s : State) (b : Bool) : (s.setOv b).ttcr = s.ttcr := rfl
@[simp] theorem State.setOv_ompic (s : State) (b : Bool) : (s.setOv b).ompic = s.ompic := rfl
@[simp] theorem State.setOv_mem (s : State) (b : Bool) : (s.setOv b).mem = s.mem := rfl
@[simp] theorem State.setOv_env (s : State) (b : Bool) : (s.setOv b).env = s.env := rfl
@[simp] theorem State.setOv_extWp (s : State) (b : Bool) : (s.setOv b).extWp = s.extWp := rfl
@[simp] theorem State.setOv_free (s : State) (b : Bool) : (s.setOv b).free = s.free := rfl
@[simp] theorem State.setOv_dbgPending (s : State) (b : Bool) : (s.setOv b).dbgPending = s.dbgPending := rfl
@[simp] theorem State.setOv_acc (s : State) (b : Bool) : (s.setOv b).acc = s.acc := rfl
@[simp] theorem State.setOv_exc (s : State) (b : Bool) : (s.setOv b).exc = s.exc := rfl

@[simp] theorem State.setMac_cfg (s : State) (v : BitVec 64) : (s.setMac v).cfg = s.cfg := rfl
@[simp] theorem State.setMac_gpr (s : State) (v : BitVec 64) : (s.setMac v).gpr = s.gpr := rfl
@[simp] theorem State.setMac_pc (s : State) (v : BitVec 64) : (s.setMac v).pc = s.pc := rfl
@[simp] theorem State.setMac_ppc (s : State) (v : BitVec 64) : (s.setMac v).ppc = s.ppc := rfl
@[simp] theorem State.setMac_ds (s : State) (v : BitVec 64) : (s.setMac v).ds = s.ds := rfl
@[simp] theorem State.setMac_sr (s : State) (v : BitVec 64) : (s.setMac v).sr = s.sr := rfl
@[simp] theorem State.setMac_epcr (s : State) (v : BitVec 64) : (s.setMac v).epcr = s.epcr := rfl
@[simp] theorem State.setMac_eear (s : State) (v : BitVec 64) : (s.setMac v).eear = s.eear := rfl
@[simp] theorem State.setMac_esr (s : State) (v : BitVec 64) : (s.setMac v).esr = s.esr := rfl
@[simp] theorem State.setMac_evbar (s : State) (v : BitVec 64) : (s.setMac v).evbar = s.evbar := rfl
@[simp] theorem State.setMac_aecr (s : State) (v : BitVec 64) : (s.setMac v).aecr = s.aecr := rfl
@[simp] theorem State.setMac_aesr (s : State) (v : BitVec 64) : (s.setMac v).aesr = s.aesr := rfl
@[simp] theorem State.setMac_fpcsr (s : State) (v : BitVec 64) : (s.setMac v).fpcsr = s.fpcsr := rfl
@[simp] theorem State.setMac_maclo (s : State) (v : BitVec 64) : (s.setMac v).maclo = v.extractLsb' 0 32 := rfl
@[simp] theorem State.setMac_machi (s : State) (v : BitVec 64) : (s.setMac v).machi = v.extractLsb' 32 32 := rfl
@[simp] theorem State.setMac_fpmaddlo (s : State) (v : BitVec 64) : (s.setMac v).fpmaddlo = s.fpmaddlo := rfl
@[simp] theorem State.setMac_fpmaddhi (s : State) (v : BitVec 64) : (s.setMac v).fpmaddhi = s.fpmaddhi := rfl
@[simp] theorem State.setMac_vmaclo (s : State) (v : BitVec 64) : (s.setMac v).vmaclo = s.vmaclo := rfl
@[simp] theorem State.setMac_vmachi (s : State) (v : BitVec 64) : (s.setMac v).vmachi = s.vmachi := rfl
@[simp] theorem State.setMac_resv (s : State) (v : BitVec 64) : (s.setMac v).resv = s.resv := rfl
@[simp] theorem State.setMac_dmmu (s : State) (v : BitVec 64) : (s.setMac v).dmmu = s.dmmu := rfl
@[simp] theorem State.setMac_immu (s : State) (v : BitVec 64) : (s.setMac v).immu = s.immu := rfl
@[simp] theorem State.setMac_dccr (s : State) (v : BitVec 64) : (s.setMac v).dccr = s.dccr := rfl
@[simp] theorem State.setMac_iccr (s : State) (v : BitVec 64) : (s.setMac v).iccr = s.iccr := rfl
@[simp] theorem State.setMac_dbg (s : State) (v : BitVec 64) : (s.setMac v).dbg = s.dbg := rfl
@[simp] theorem State.setMac_pccr (s : State) (v : BitVec 64) : (s.setMac v).pccr = s.pccr := rfl
@[simp] theorem State.setMac_pcmr (s : State) (v : BitVec 64) : (s.setMac v).pcmr = s.pcmr := rfl
@[simp] theorem State.setMac_pmr (s : State) (v : BitVec 64) : (s.setMac v).pmr = s.pmr := rfl
@[simp] theorem State.setMac_status (s : State) (v : BitVec 64) : (s.setMac v).status = s.status := rfl
@[simp] theorem State.setMac_picmr (s : State) (v : BitVec 64) : (s.setMac v).picmr = s.picmr := rfl
@[simp] theorem State.setMac_picLatch (s : State) (v : BitVec 64) : (s.setMac v).picLatch = s.picLatch := rfl
@[simp] theorem State.setMac_irqIn (s : State) (v : BitVec 64) : (s.setMac v).irqIn = s.irqIn := rfl
@[simp] theorem State.setMac_irqSeen (s : State) (v : BitVec 64) : (s.setMac v).irqSeen = s.irqSeen := rfl
@[simp] theorem State.setMac_ttmr (s : State) (v : BitVec 64) : (s.setMac v).ttmr = s.ttmr := rfl
@[simp] theorem State.setMac_ttcr (s : State) (v : BitVec 64) : (s.setMac v).ttcr = s.ttcr := rfl
@[simp] theorem State.setMac_ompic (s : State) (v : BitVec 64) : (s.setMac v).ompic = s.ompic := rfl
@[simp] theorem State.setMac_mem (s : State) (v : BitVec 64) : (s.setMac v).mem = s.mem := rfl
@[simp] theorem State.setMac_env (s : State) (v : BitVec 64) : (s.setMac v).env = s.env := rfl
@[simp] theorem State.setMac_extWp (s : State) (v : BitVec 64) : (s.setMac v).extWp = s.extWp := rfl
@[simp] theorem State.setMac_free (s : State) (v : BitVec 64) : (s.setMac v).free = s.free := rfl
@[simp] theorem State.setMac_dbgPending (s : State) (v : BitVec 64) : (s.setMac v).dbgPending = s.dbgPending := rfl
@[simp] theorem State.setMac_acc (s : State) (v : BitVec 64) : (s.setMac v).acc = s.acc := rfl
@[simp] theorem State.setMac_exc (s : State) (v : BitVec 64) : (s.setMac v).exc = s.exc := rfl

@[simp] theorem State.setFpmadd_cfg (s : State) (v : BitVec 64) : (s.setFpmadd v).cfg = s.cfg := rfl
@[simp] theorem State.setFpmadd_gpr (s : State) (v : BitVec 64) : (s.setFpmadd v).gpr = s.gpr := rfl
@[simp] theorem State.setFpmadd_pc (s : State) (v : BitVec 64) : (s.setFpmadd v).pc = s.pc := rfl
@[simp] theorem State.setFpmadd_ppc (s : State) (v : BitVec 64) : (s.setFpmadd v).ppc = s.ppc := rfl
@[simp] theorem State.setFpmadd_ds (s : State) (v : BitVec 64) : (s.setFpmadd v).ds = s.ds := rfl
@[simp] theorem State.setFpmadd_sr (s : State) (v : BitVec 64) : (s.setFpmadd v).sr = s.sr := rfl
@[simp] theorem State.setFpmadd_epcr (s : State) (v : BitVec 64) : (s.setFpmadd v).epcr = s.epcr := rfl
@[simp] theorem State.setFpmadd_eear (s : State) (v : BitVec 64) : (s.setFpmadd v).eear = s.eear := rfl
@[simp] theorem State.setFpmadd_esr (s : State) (v : BitVec 64) : (s.setFpmadd v).esr = s.esr := rfl
@[simp] theorem State.setFpmadd_evbar (s : State) (v : BitVec 64) : (s.setFpmadd v).evbar = s.evbar := rfl
@[simp] theorem State.setFpmadd_aecr (s : State) (v : BitVec 64) : (s.setFpmadd v).aecr = s.aecr := rfl
@[simp] theorem State.setFpmadd_aesr (s : State) (v : BitVec 64) : (s.setFpmadd v).aesr = s.aesr := rfl
@[simp] theorem State.setFpmadd_fpcsr (s : State) (v : BitVec 64) : (s.setFpmadd v).fpcsr = s.fpcsr := rfl
@[simp] theorem State.setFpmadd_maclo (s : State) (v : BitVec 64) : (s.setFpmadd v).maclo = s.maclo := rfl
@[simp] theorem State.setFpmadd_machi (s : State) (v : BitVec 64) : (s.setFpmadd v).machi = s.machi := rfl
@[simp] theorem State.setFpmadd_fpmaddlo (s : State) (v : BitVec 64) : (s.setFpmadd v).fpmaddlo = v.extractLsb' 0 32 := rfl
@[simp] theorem State.setFpmadd_fpmaddhi (s : State) (v : BitVec 64) : (s.setFpmadd v).fpmaddhi = v.extractLsb' 32 32 := rfl
@[simp] theorem State.setFpmadd_vmaclo (s : State) (v : BitVec 64) : (s.setFpmadd v).vmaclo = s.vmaclo := rfl
@[simp] theorem State.setFpmadd_vmachi (s : State) (v : BitVec 64) : (s.setFpmadd v).vmachi = s.vmachi := rfl
@[simp] theorem State.setFpmadd_resv (s : State) (v : BitVec 64) : (s.setFpmadd v).resv = s.resv := rfl
@[simp] theorem State.setFpmadd_dmmu (s : State) (v : BitVec 64) : (s.setFpmadd v).dmmu = s.dmmu := rfl
@[simp] theorem State.setFpmadd_immu (s : State) (v : BitVec 64) : (s.setFpmadd v).immu = s.immu := rfl
@[simp] theorem State.setFpmadd_dccr (s : State) (v : BitVec 64) : (s.setFpmadd v).dccr = s.dccr := rfl
@[simp] theorem State.setFpmadd_iccr (s : State) (v : BitVec 64) : (s.setFpmadd v).iccr = s.iccr := rfl
@[simp] theorem State.setFpmadd_dbg (s : State) (v : BitVec 64) : (s.setFpmadd v).dbg = s.dbg := rfl
@[simp] theorem State.setFpmadd_pccr (s : State) (v : BitVec 64) : (s.setFpmadd v).pccr = s.pccr := rfl
@[simp] theorem State.setFpmadd_pcmr (s : State) (v : BitVec 64) : (s.setFpmadd v).pcmr = s.pcmr := rfl
@[simp] theorem State.setFpmadd_pmr (s : State) (v : BitVec 64) : (s.setFpmadd v).pmr = s.pmr := rfl
@[simp] theorem State.setFpmadd_status (s : State) (v : BitVec 64) : (s.setFpmadd v).status = s.status := rfl
@[simp] theorem State.setFpmadd_picmr (s : State) (v : BitVec 64) : (s.setFpmadd v).picmr = s.picmr := rfl
@[simp] theorem State.setFpmadd_picLatch (s : State) (v : BitVec 64) : (s.setFpmadd v).picLatch = s.picLatch := rfl
@[simp] theorem State.setFpmadd_irqIn (s : State) (v : BitVec 64) : (s.setFpmadd v).irqIn = s.irqIn := rfl
@[simp] theorem State.setFpmadd_irqSeen (s : State) (v : BitVec 64) : (s.setFpmadd v).irqSeen = s.irqSeen := rfl
@[simp] theorem State.setFpmadd_ttmr (s : State) (v : BitVec 64) : (s.setFpmadd v).ttmr = s.ttmr := rfl
@[simp] theorem State.setFpmadd_ttcr (s : State) (v : BitVec 64) : (s.setFpmadd v).ttcr = s.ttcr := rfl
@[simp] theorem State.setFpmadd_ompic (s : State) (v : BitVec 64) : (s.setFpmadd v).ompic = s.ompic := rfl
@[simp] theorem State.setFpmadd_mem (s : State) (v : BitVec 64) : (s.setFpmadd v).mem = s.mem := rfl
@[simp] theorem State.setFpmadd_env (s : State) (v : BitVec 64) : (s.setFpmadd v).env = s.env := rfl
@[simp] theorem State.setFpmadd_extWp (s : State) (v : BitVec 64) : (s.setFpmadd v).extWp = s.extWp := rfl
@[simp] theorem State.setFpmadd_free (s : State) (v : BitVec 64) : (s.setFpmadd v).free = s.free := rfl
@[simp] theorem State.setFpmadd_dbgPending (s : State) (v : BitVec 64) : (s.setFpmadd v).dbgPending = s.dbgPending := rfl
@[simp] theorem State.setFpmadd_acc (s : State) (v : BitVec 64) : (s.setFpmadd v).acc = s.acc := rfl
@[simp] theorem State.setFpmadd_exc (s : State) (v : BitVec 64) : (s.setFpmadd v).exc = s.exc := rfl

@[simp] theorem State.drawn_cfg (s : State) : (s.drawn).cfg = s.cfg := rfl
@[simp] theorem State.drawn_gpr (s : State) : (s.drawn).gpr = s.gpr := rfl
@[simp] theorem State.drawn_pc (s : State) : (s.drawn).pc = s.pc := rfl
@[simp] theorem State.drawn_ppc (s : State) : (s.drawn).ppc = s.ppc := rfl
@[simp] theorem State.drawn_ds (s : State) : (s.drawn).ds = s.ds := rfl
@[simp] theorem State.drawn_sr (s : State) : (s.drawn).sr = s.sr := rfl
@[simp] theorem State.drawn_epcr (s : State) : (s.drawn).epcr = s.epcr := rfl
@[simp] theorem State.drawn_eear (s : State) : (s.drawn).eear = s.eear := rfl
@[simp] theorem State.drawn_esr (s : State) : (s.drawn).esr = s.esr := rfl
@[simp] theorem State.drawn_evbar (s : State) : (s.drawn).evbar = s.evbar := rfl
@[simp] theorem State.drawn_aecr (s : State) : (s.drawn).aecr = s.aecr := rfl
@[simp] theorem State.drawn_aesr (s : State) : (s.drawn).aesr = s.aesr := rfl
@[simp] theorem State.drawn_fpcsr (s : State) : (s.drawn).fpcsr = s.fpcsr := rfl
@[simp] theorem State.drawn_maclo (s : State) : (s.drawn).maclo = s.maclo := rfl
@[simp] theorem State.drawn_machi (s : State) : (s.drawn).machi = s.machi := rfl
@[simp] theorem State.drawn_fpmaddlo (s : State) : (s.drawn).fpmaddlo = s.fpmaddlo := rfl
@[simp] theorem State.drawn_fpmaddhi (s : State) : (s.drawn).fpmaddhi = s.fpmaddhi := rfl
@[simp] theorem State.drawn_vmaclo (s : State) : (s.drawn).vmaclo = s.vmaclo := rfl
@[simp] theorem State.drawn_vmachi (s : State) : (s.drawn).vmachi = s.vmachi := rfl
@[simp] theorem State.drawn_resv (s : State) : (s.drawn).resv = s.resv := rfl
@[simp] theorem State.drawn_dmmu (s : State) : (s.drawn).dmmu = s.dmmu := rfl
@[simp] theorem State.drawn_immu (s : State) : (s.drawn).immu = s.immu := rfl
@[simp] theorem State.drawn_dccr (s : State) : (s.drawn).dccr = s.dccr := rfl
@[simp] theorem State.drawn_iccr (s : State) : (s.drawn).iccr = s.iccr := rfl
@[simp] theorem State.drawn_dbg (s : State) : (s.drawn).dbg = s.dbg := rfl
@[simp] theorem State.drawn_pccr (s : State) : (s.drawn).pccr = s.pccr := rfl
@[simp] theorem State.drawn_pcmr (s : State) : (s.drawn).pcmr = s.pcmr := rfl
@[simp] theorem State.drawn_pmr (s : State) : (s.drawn).pmr = s.pmr := rfl
@[simp] theorem State.drawn_status (s : State) : (s.drawn).status = s.status := rfl
@[simp] theorem State.drawn_picmr (s : State) : (s.drawn).picmr = s.picmr := rfl
@[simp] theorem State.drawn_picLatch (s : State) : (s.drawn).picLatch = s.picLatch := rfl
@[simp] theorem State.drawn_irqIn (s : State) : (s.drawn).irqIn = s.irqIn := rfl
@[simp] theorem State.drawn_irqSeen (s : State) : (s.drawn).irqSeen = s.irqSeen := rfl
@[simp] theorem State.drawn_ttmr (s : State) : (s.drawn).ttmr = s.ttmr := rfl
@[simp] theorem State.drawn_ttcr (s : State) : (s.drawn).ttcr = s.ttcr := rfl
@[simp] theorem State.drawn_ompic (s : State) : (s.drawn).ompic = s.ompic := rfl
@[simp] theorem State.drawn_mem (s : State) : (s.drawn).mem = s.mem := rfl
@[simp] theorem State.drawn_env (s : State) : (s.drawn).env = s.env := rfl
@[simp] theorem State.drawn_extWp (s : State) : (s.drawn).extWp = s.extWp := rfl
@[simp] theorem State.drawn_free (s : State) : (s.drawn).free = s.free + 1 := rfl
@[simp] theorem State.drawn_dbgPending (s : State) : (s.drawn).dbgPending = s.dbgPending := rfl
@[simp] theorem State.drawn_acc (s : State) : (s.drawn).acc = s.acc := rfl
@[simp] theorem State.drawn_exc (s : State) : (s.drawn).exc = s.exc := rfl

@[simp] theorem State.raise_cfg (s : State) (f : Word32) : (s.raise f).cfg = s.cfg := rfl
@[simp] theorem State.raise_gpr (s : State) (f : Word32) : (s.raise f).gpr = s.gpr := rfl
@[simp] theorem State.raise_pc (s : State) (f : Word32) : (s.raise f).pc = s.pc := rfl
@[simp] theorem State.raise_ppc (s : State) (f : Word32) : (s.raise f).ppc = s.ppc := rfl
@[simp] theorem State.raise_ds (s : State) (f : Word32) : (s.raise f).ds = s.ds := rfl
@[simp] theorem State.raise_sr (s : State) (f : Word32) : (s.raise f).sr = s.sr := rfl
@[simp] theorem State.raise_epcr (s : State) (f : Word32) : (s.raise f).epcr = s.epcr := rfl
@[simp] theorem State.raise_eear (s : State) (f : Word32) : (s.raise f).eear = s.eear := rfl
@[simp] theorem State.raise_esr (s : State) (f : Word32) : (s.raise f).esr = s.esr := rfl
@[simp] theorem State.raise_evbar (s : State) (f : Word32) : (s.raise f).evbar = s.evbar := rfl
@[simp] theorem State.raise_aecr (s : State) (f : Word32) : (s.raise f).aecr = s.aecr := rfl
@[simp] theorem State.raise_aesr (s : State) (f : Word32) : (s.raise f).aesr = s.aesr := rfl
@[simp] theorem State.raise_fpcsr (s : State) (f : Word32) : (s.raise f).fpcsr = s.fpcsr ||| f := rfl
@[simp] theorem State.raise_maclo (s : State) (f : Word32) : (s.raise f).maclo = s.maclo := rfl
@[simp] theorem State.raise_machi (s : State) (f : Word32) : (s.raise f).machi = s.machi := rfl
@[simp] theorem State.raise_fpmaddlo (s : State) (f : Word32) : (s.raise f).fpmaddlo = s.fpmaddlo := rfl
@[simp] theorem State.raise_fpmaddhi (s : State) (f : Word32) : (s.raise f).fpmaddhi = s.fpmaddhi := rfl
@[simp] theorem State.raise_vmaclo (s : State) (f : Word32) : (s.raise f).vmaclo = s.vmaclo := rfl
@[simp] theorem State.raise_vmachi (s : State) (f : Word32) : (s.raise f).vmachi = s.vmachi := rfl
@[simp] theorem State.raise_resv (s : State) (f : Word32) : (s.raise f).resv = s.resv := rfl
@[simp] theorem State.raise_dmmu (s : State) (f : Word32) : (s.raise f).dmmu = s.dmmu := rfl
@[simp] theorem State.raise_immu (s : State) (f : Word32) : (s.raise f).immu = s.immu := rfl
@[simp] theorem State.raise_dccr (s : State) (f : Word32) : (s.raise f).dccr = s.dccr := rfl
@[simp] theorem State.raise_iccr (s : State) (f : Word32) : (s.raise f).iccr = s.iccr := rfl
@[simp] theorem State.raise_dbg (s : State) (f : Word32) : (s.raise f).dbg = s.dbg := rfl
@[simp] theorem State.raise_pccr (s : State) (f : Word32) : (s.raise f).pccr = s.pccr := rfl
@[simp] theorem State.raise_pcmr (s : State) (f : Word32) : (s.raise f).pcmr = s.pcmr := rfl
@[simp] theorem State.raise_pmr (s : State) (f : Word32) : (s.raise f).pmr = s.pmr := rfl
@[simp] theorem State.raise_status (s : State) (f : Word32) : (s.raise f).status = s.status := rfl
@[simp] theorem State.raise_picmr (s : State) (f : Word32) : (s.raise f).picmr = s.picmr := rfl
@[simp] theorem State.raise_picLatch (s : State) (f : Word32) : (s.raise f).picLatch = s.picLatch := rfl
@[simp] theorem State.raise_irqIn (s : State) (f : Word32) : (s.raise f).irqIn = s.irqIn := rfl
@[simp] theorem State.raise_irqSeen (s : State) (f : Word32) : (s.raise f).irqSeen = s.irqSeen := rfl
@[simp] theorem State.raise_ttmr (s : State) (f : Word32) : (s.raise f).ttmr = s.ttmr := rfl
@[simp] theorem State.raise_ttcr (s : State) (f : Word32) : (s.raise f).ttcr = s.ttcr := rfl
@[simp] theorem State.raise_ompic (s : State) (f : Word32) : (s.raise f).ompic = s.ompic := rfl
@[simp] theorem State.raise_mem (s : State) (f : Word32) : (s.raise f).mem = s.mem := rfl
@[simp] theorem State.raise_env (s : State) (f : Word32) : (s.raise f).env = s.env := rfl
@[simp] theorem State.raise_extWp (s : State) (f : Word32) : (s.raise f).extWp = s.extWp := rfl
@[simp] theorem State.raise_free (s : State) (f : Word32) : (s.raise f).free = s.free := rfl
@[simp] theorem State.raise_dbgPending (s : State) (f : Word32) : (s.raise f).dbgPending = s.dbgPending := rfl
@[simp] theorem State.raise_acc (s : State) (f : Word32) : (s.raise f).acc = s.acc := rfl
@[simp] theorem State.raise_exc (s : State) (f : Word32) : (s.raise f).exc = s.exc := rfl

@[simp] theorem executed_cfg (s : State) : (executed s).cfg = s.cfg := rfl
@[simp] theorem executed_gpr (s : State) : (executed s).gpr = s.gpr := rfl
@[simp] theorem executed_pc (s : State) : (executed s).pc = s.pc := rfl
@[simp] theorem executed_ppc (s : State) : (executed s).ppc = s.pc := rfl
@[simp] theorem executed_ds (s : State) : (executed s).ds = s.ds := rfl
@[simp] theorem executed_sr (s : State) : (executed s).sr = s.sr := rfl
@[simp] theorem executed_epcr (s : State) : (executed s).epcr = s.epcr := rfl
@[simp] theorem executed_eear (s : State) : (executed s).eear = s.eear := rfl
@[simp] theorem executed_esr (s : State) : (executed s).esr = s.esr := rfl
@[simp] theorem executed_evbar (s : State) : (executed s).evbar = s.evbar := rfl
@[simp] theorem executed_aecr (s : State) : (executed s).aecr = s.aecr := rfl
@[simp] theorem executed_aesr (s : State) : (executed s).aesr = s.aesr := rfl
@[simp] theorem executed_fpcsr (s : State) : (executed s).fpcsr = s.fpcsr := rfl
@[simp] theorem executed_maclo (s : State) : (executed s).maclo = s.maclo := rfl
@[simp] theorem executed_machi (s : State) : (executed s).machi = s.machi := rfl
@[simp] theorem executed_fpmaddlo (s : State) : (executed s).fpmaddlo = s.fpmaddlo := rfl
@[simp] theorem executed_fpmaddhi (s : State) : (executed s).fpmaddhi = s.fpmaddhi := rfl
@[simp] theorem executed_vmaclo (s : State) : (executed s).vmaclo = s.vmaclo := rfl
@[simp] theorem executed_vmachi (s : State) : (executed s).vmachi = s.vmachi := rfl
@[simp] theorem executed_resv (s : State) : (executed s).resv = s.resv := rfl
@[simp] theorem executed_dmmu (s : State) : (executed s).dmmu = s.dmmu := rfl
@[simp] theorem executed_immu (s : State) : (executed s).immu = s.immu := rfl
@[simp] theorem executed_dccr (s : State) : (executed s).dccr = s.dccr := rfl
@[simp] theorem executed_iccr (s : State) : (executed s).iccr = s.iccr := rfl
@[simp] theorem executed_dbg (s : State) : (executed s).dbg = s.dbg := rfl
@[simp] theorem executed_pccr (s : State) : (executed s).pccr = s.pccr := rfl
@[simp] theorem executed_pcmr (s : State) : (executed s).pcmr = s.pcmr := rfl
@[simp] theorem executed_pmr (s : State) : (executed s).pmr = s.pmr := rfl
@[simp] theorem executed_status (s : State) : (executed s).status = s.status := rfl
@[simp] theorem executed_picmr (s : State) : (executed s).picmr = s.picmr := rfl
@[simp] theorem executed_picLatch (s : State) : (executed s).picLatch = s.picLatch := rfl
@[simp] theorem executed_irqIn (s : State) : (executed s).irqIn = s.irqIn := rfl
@[simp] theorem executed_irqSeen (s : State) : (executed s).irqSeen = s.irqSeen := rfl
@[simp] theorem executed_ttmr (s : State) : (executed s).ttmr = s.ttmr := rfl
@[simp] theorem executed_ttcr (s : State) : (executed s).ttcr = s.ttcr := rfl
@[simp] theorem executed_ompic (s : State) : (executed s).ompic = s.ompic := rfl
@[simp] theorem executed_mem (s : State) : (executed s).mem = s.mem := rfl
@[simp] theorem executed_env (s : State) : (executed s).env = s.env := rfl
@[simp] theorem executed_extWp (s : State) : (executed s).extWp = s.extWp := rfl
@[simp] theorem executed_free (s : State) : (executed s).free = s.free := rfl
@[simp] theorem executed_dbgPending (s : State) : (executed s).dbgPending = s.dbgPending := rfl
@[simp] theorem executed_acc (s : State) : (executed s).acc = s.acc := rfl
@[simp] theorem executed_exc (s : State) : (executed s).exc = s.exc := rfl

@[simp] theorem returnFromExc_cfg (s : State) : (returnFromExc s).cfg = s.cfg := rfl
@[simp] theorem returnFromExc_gpr (s : State) : (returnFromExc s).gpr = s.gpr := rfl
@[simp] theorem returnFromExc_pc (s : State) : (returnFromExc s).pc = trunc s.cfg (s.epcr.get s.ctx) := rfl
@[simp] theorem returnFromExc_ppc (s : State) : (returnFromExc s).ppc = s.pc := rfl
@[simp] theorem returnFromExc_ds (s : State) : (returnFromExc s).ds = none := rfl
@[simp] theorem returnFromExc_sr (s : State) : (returnFromExc s).sr = legalSr s.cfg ((s.esr.get s.ctx).setWidth 32) := rfl
@[simp] theorem returnFromExc_epcr (s : State) : (returnFromExc s).epcr = s.epcr := rfl
@[simp] theorem returnFromExc_eear (s : State) : (returnFromExc s).eear = s.eear := rfl
@[simp] theorem returnFromExc_esr (s : State) : (returnFromExc s).esr = s.esr := rfl
@[simp] theorem returnFromExc_evbar (s : State) : (returnFromExc s).evbar = s.evbar := rfl
@[simp] theorem returnFromExc_aecr (s : State) : (returnFromExc s).aecr = s.aecr := rfl
@[simp] theorem returnFromExc_aesr (s : State) : (returnFromExc s).aesr = s.aesr := rfl
@[simp] theorem returnFromExc_fpcsr (s : State) : (returnFromExc s).fpcsr = s.fpcsr := rfl
@[simp] theorem returnFromExc_maclo (s : State) : (returnFromExc s).maclo = s.maclo := rfl
@[simp] theorem returnFromExc_machi (s : State) : (returnFromExc s).machi = s.machi := rfl
@[simp] theorem returnFromExc_fpmaddlo (s : State) : (returnFromExc s).fpmaddlo = s.fpmaddlo := rfl
@[simp] theorem returnFromExc_fpmaddhi (s : State) : (returnFromExc s).fpmaddhi = s.fpmaddhi := rfl
@[simp] theorem returnFromExc_vmaclo (s : State) : (returnFromExc s).vmaclo = s.vmaclo := rfl
@[simp] theorem returnFromExc_vmachi (s : State) : (returnFromExc s).vmachi = s.vmachi := rfl
@[simp] theorem returnFromExc_resv (s : State) : (returnFromExc s).resv = s.resv := rfl
@[simp] theorem returnFromExc_dmmu (s : State) : (returnFromExc s).dmmu = s.dmmu := rfl
@[simp] theorem returnFromExc_immu (s : State) : (returnFromExc s).immu = s.immu := rfl
@[simp] theorem returnFromExc_dccr (s : State) : (returnFromExc s).dccr = s.dccr := rfl
@[simp] theorem returnFromExc_iccr (s : State) : (returnFromExc s).iccr = s.iccr := rfl
@[simp] theorem returnFromExc_dbg (s : State) : (returnFromExc s).dbg = s.dbg := rfl
@[simp] theorem returnFromExc_pccr (s : State) : (returnFromExc s).pccr = s.pccr := rfl
@[simp] theorem returnFromExc_pcmr (s : State) : (returnFromExc s).pcmr = s.pcmr := rfl
@[simp] theorem returnFromExc_pmr (s : State) : (returnFromExc s).pmr = s.pmr := rfl
@[simp] theorem returnFromExc_status (s : State) : (returnFromExc s).status = s.status := rfl
@[simp] theorem returnFromExc_picmr (s : State) : (returnFromExc s).picmr = s.picmr := rfl
@[simp] theorem returnFromExc_picLatch (s : State) : (returnFromExc s).picLatch = s.picLatch := rfl
@[simp] theorem returnFromExc_irqIn (s : State) : (returnFromExc s).irqIn = s.irqIn := rfl
@[simp] theorem returnFromExc_irqSeen (s : State) : (returnFromExc s).irqSeen = s.irqSeen := rfl
@[simp] theorem returnFromExc_ttmr (s : State) : (returnFromExc s).ttmr = s.ttmr := rfl
@[simp] theorem returnFromExc_ttcr (s : State) : (returnFromExc s).ttcr = s.ttcr := rfl
@[simp] theorem returnFromExc_ompic (s : State) : (returnFromExc s).ompic = s.ompic := rfl
@[simp] theorem returnFromExc_mem (s : State) : (returnFromExc s).mem = s.mem := rfl
@[simp] theorem returnFromExc_env (s : State) : (returnFromExc s).env = s.env := rfl
@[simp] theorem returnFromExc_extWp (s : State) : (returnFromExc s).extWp = s.extWp := rfl
@[simp] theorem returnFromExc_free (s : State) : (returnFromExc s).free = s.free := rfl
@[simp] theorem returnFromExc_dbgPending (s : State) : (returnFromExc s).dbgPending = s.dbgPending := rfl
@[simp] theorem returnFromExc_acc (s : State) : (returnFromExc s).acc = s.acc := rfl
@[simp] theorem returnFromExc_exc (s : State) : (returnFromExc s).exc = s.exc := rfl

@[simp] theorem advance_cfg (s : State) : (advance s).cfg = s.cfg := by unfold advance; split <;> rfl
@[simp] theorem advance_gpr (s : State) : (advance s).gpr = s.gpr := by unfold advance; split <;> rfl
@[simp] theorem advance_pc (s : State) : (advance s).pc = s.nextPc := by unfold advance State.nextPc; cases s.ds <;> rfl
@[simp] theorem advance_ppc (s : State) : (advance s).ppc = s.pc := by unfold advance; split <;> rfl
@[simp] theorem advance_ds (s : State) : (advance s).ds = none := by unfold advance; split <;> simp_all
@[simp] theorem advance_sr (s : State) : (advance s).sr = s.sr := by unfold advance; split <;> rfl
@[simp] theorem advance_epcr (s : State) : (advance s).epcr = s.epcr := by unfold advance; split <;> rfl
@[simp] theorem advance_eear (s : State) : (advance s).eear = s.eear := by unfold advance; split <;> rfl
@[simp] theorem advance_esr (s : State) : (advance s).esr = s.esr := by unfold advance; split <;> rfl
@[simp] theorem advance_evbar (s : State) : (advance s).evbar = s.evbar := by unfold advance; split <;> rfl
@[simp] theorem advance_aecr (s : State) : (advance s).aecr = s.aecr := by unfold advance; split <;> rfl
@[simp] theorem advance_aesr (s : State) : (advance s).aesr = s.aesr := by unfold advance; split <;> rfl
@[simp] theorem advance_fpcsr (s : State) : (advance s).fpcsr = s.fpcsr := by unfold advance; split <;> rfl
@[simp] theorem advance_maclo (s : State) : (advance s).maclo = s.maclo := by unfold advance; split <;> rfl
@[simp] theorem advance_machi (s : State) : (advance s).machi = s.machi := by unfold advance; split <;> rfl
@[simp] theorem advance_fpmaddlo (s : State) : (advance s).fpmaddlo = s.fpmaddlo := by unfold advance; split <;> rfl
@[simp] theorem advance_fpmaddhi (s : State) : (advance s).fpmaddhi = s.fpmaddhi := by unfold advance; split <;> rfl
@[simp] theorem advance_vmaclo (s : State) : (advance s).vmaclo = s.vmaclo := by unfold advance; split <;> rfl
@[simp] theorem advance_vmachi (s : State) : (advance s).vmachi = s.vmachi := by unfold advance; split <;> rfl
@[simp] theorem advance_resv (s : State) : (advance s).resv = s.resv := by unfold advance; split <;> rfl
@[simp] theorem advance_dmmu (s : State) : (advance s).dmmu = s.dmmu := by unfold advance; split <;> rfl
@[simp] theorem advance_immu (s : State) : (advance s).immu = s.immu := by unfold advance; split <;> rfl
@[simp] theorem advance_dccr (s : State) : (advance s).dccr = s.dccr := by unfold advance; split <;> rfl
@[simp] theorem advance_iccr (s : State) : (advance s).iccr = s.iccr := by unfold advance; split <;> rfl
@[simp] theorem advance_dbg (s : State) : (advance s).dbg = s.dbg := by unfold advance; split <;> rfl
@[simp] theorem advance_pccr (s : State) : (advance s).pccr = s.pccr := by unfold advance; split <;> rfl
@[simp] theorem advance_pcmr (s : State) : (advance s).pcmr = s.pcmr := by unfold advance; split <;> rfl
@[simp] theorem advance_pmr (s : State) : (advance s).pmr = s.pmr := by unfold advance; split <;> rfl
@[simp] theorem advance_status (s : State) : (advance s).status = s.status := by unfold advance; split <;> rfl
@[simp] theorem advance_picmr (s : State) : (advance s).picmr = s.picmr := by unfold advance; split <;> rfl
@[simp] theorem advance_picLatch (s : State) : (advance s).picLatch = s.picLatch := by unfold advance; split <;> rfl
@[simp] theorem advance_irqIn (s : State) : (advance s).irqIn = s.irqIn := by unfold advance; split <;> rfl
@[simp] theorem advance_irqSeen (s : State) : (advance s).irqSeen = s.irqSeen := by unfold advance; split <;> rfl
@[simp] theorem advance_ttmr (s : State) : (advance s).ttmr = s.ttmr := by unfold advance; split <;> rfl
@[simp] theorem advance_ttcr (s : State) : (advance s).ttcr = s.ttcr := by unfold advance; split <;> rfl
@[simp] theorem advance_ompic (s : State) : (advance s).ompic = s.ompic := by unfold advance; split <;> rfl
@[simp] theorem advance_mem (s : State) : (advance s).mem = s.mem := by unfold advance; split <;> rfl
@[simp] theorem advance_env (s : State) : (advance s).env = s.env := by unfold advance; split <;> rfl
@[simp] theorem advance_extWp (s : State) : (advance s).extWp = s.extWp := by unfold advance; split <;> rfl
@[simp] theorem advance_free (s : State) : (advance s).free = s.free := by unfold advance; split <;> rfl
@[simp] theorem advance_dbgPending (s : State) : (advance s).dbgPending = s.dbgPending := by unfold advance; split <;> rfl
@[simp] theorem advance_acc (s : State) : (advance s).acc = s.acc := by unfold advance; split <;> rfl
@[simp] theorem advance_exc (s : State) : (advance s).exc = s.exc := by unfold advance; split <;> rfl

@[simp] theorem State.setSingle_cfg (s : State) (r : RegNo) (v : Word32) : (s.setSingle r v).cfg = s.cfg := by unfold State.setSingle; split <;> rfl
@[simp] theorem State.setSingle_pc (s : State) (r : RegNo) (v : Word32) : (s.setSingle r v).pc = s.pc := by unfold State.setSingle; split <;> rfl
@[simp] theorem State.setSingle_ppc (s : State) (r : RegNo) (v : Word32) : (s.setSingle r v).ppc = s.ppc := by unfold State.setSingle; split <;> rfl
@[simp] theorem State.setSingle_ds (s : State) (r : RegNo) (v : Word32) : (s.setSingle r v).ds = s.ds := by unfold State.setSingle; split <;> rfl
@[simp] theorem State.setSingle_sr (s : State) (r : RegNo) (v : Word32) : (s.setSingle r v).sr = s.sr := by unfold State.setSingle; split <;> rfl
@[simp] theorem State.setSingle_epcr (s : State) (r : RegNo) (v : Word32) : (s.setSingle r v).epcr = s.epcr := by unfold State.setSingle; split <;> rfl
@[simp] theorem State.setSingle_eear (s : State) (r : RegNo) (v : Word32) : (s.setSingle r v).eear = s.eear := by unfold State.setSingle; split <;> rfl
@[simp] theorem State.setSingle_esr (s : State) (r : RegNo) (v : Word32) : (s.setSingle r v).esr = s.esr := by unfold State.setSingle; split <;> rfl
@[simp] theorem State.setSingle_evbar (s : State) (r : RegNo) (v : Word32) : (s.setSingle r v).evbar = s.evbar := by unfold State.setSingle; split <;> rfl
@[simp] theorem State.setSingle_aecr (s : State) (r : RegNo) (v : Word32) : (s.setSingle r v).aecr = s.aecr := by unfold State.setSingle; split <;> rfl
@[simp] theorem State.setSingle_aesr (s : State) (r : RegNo) (v : Word32) : (s.setSingle r v).aesr = s.aesr := by unfold State.setSingle; split <;> rfl
@[simp] theorem State.setSingle_fpcsr (s : State) (r : RegNo) (v : Word32) : (s.setSingle r v).fpcsr = s.fpcsr := by unfold State.setSingle; split <;> rfl
@[simp] theorem State.setSingle_maclo (s : State) (r : RegNo) (v : Word32) : (s.setSingle r v).maclo = s.maclo := by unfold State.setSingle; split <;> rfl
@[simp] theorem State.setSingle_machi (s : State) (r : RegNo) (v : Word32) : (s.setSingle r v).machi = s.machi := by unfold State.setSingle; split <;> rfl
@[simp] theorem State.setSingle_fpmaddlo (s : State) (r : RegNo) (v : Word32) : (s.setSingle r v).fpmaddlo = s.fpmaddlo := by unfold State.setSingle; split <;> rfl
@[simp] theorem State.setSingle_fpmaddhi (s : State) (r : RegNo) (v : Word32) : (s.setSingle r v).fpmaddhi = s.fpmaddhi := by unfold State.setSingle; split <;> rfl
@[simp] theorem State.setSingle_vmaclo (s : State) (r : RegNo) (v : Word32) : (s.setSingle r v).vmaclo = s.vmaclo := by unfold State.setSingle; split <;> rfl
@[simp] theorem State.setSingle_vmachi (s : State) (r : RegNo) (v : Word32) : (s.setSingle r v).vmachi = s.vmachi := by unfold State.setSingle; split <;> rfl
@[simp] theorem State.setSingle_resv (s : State) (r : RegNo) (v : Word32) : (s.setSingle r v).resv = s.resv := by unfold State.setSingle; split <;> rfl
@[simp] theorem State.setSingle_dmmu (s : State) (r : RegNo) (v : Word32) : (s.setSingle r v).dmmu = s.dmmu := by unfold State.setSingle; split <;> rfl
@[simp] theorem State.setSingle_immu (s : State) (r : RegNo) (v : Word32) : (s.setSingle r v).immu = s.immu := by unfold State.setSingle; split <;> rfl
@[simp] theorem State.setSingle_dccr (s : State) (r : RegNo) (v : Word32) : (s.setSingle r v).dccr = s.dccr := by unfold State.setSingle; split <;> rfl
@[simp] theorem State.setSingle_iccr (s : State) (r : RegNo) (v : Word32) : (s.setSingle r v).iccr = s.iccr := by unfold State.setSingle; split <;> rfl
@[simp] theorem State.setSingle_dbg (s : State) (r : RegNo) (v : Word32) : (s.setSingle r v).dbg = s.dbg := by unfold State.setSingle; split <;> rfl
@[simp] theorem State.setSingle_pccr (s : State) (r : RegNo) (v : Word32) : (s.setSingle r v).pccr = s.pccr := by unfold State.setSingle; split <;> rfl
@[simp] theorem State.setSingle_pcmr (s : State) (r : RegNo) (v : Word32) : (s.setSingle r v).pcmr = s.pcmr := by unfold State.setSingle; split <;> rfl
@[simp] theorem State.setSingle_pmr (s : State) (r : RegNo) (v : Word32) : (s.setSingle r v).pmr = s.pmr := by unfold State.setSingle; split <;> rfl
@[simp] theorem State.setSingle_status (s : State) (r : RegNo) (v : Word32) : (s.setSingle r v).status = s.status := by unfold State.setSingle; split <;> rfl
@[simp] theorem State.setSingle_picmr (s : State) (r : RegNo) (v : Word32) : (s.setSingle r v).picmr = s.picmr := by unfold State.setSingle; split <;> rfl
@[simp] theorem State.setSingle_picLatch (s : State) (r : RegNo) (v : Word32) : (s.setSingle r v).picLatch = s.picLatch := by unfold State.setSingle; split <;> rfl
@[simp] theorem State.setSingle_irqIn (s : State) (r : RegNo) (v : Word32) : (s.setSingle r v).irqIn = s.irqIn := by unfold State.setSingle; split <;> rfl
@[simp] theorem State.setSingle_irqSeen (s : State) (r : RegNo) (v : Word32) : (s.setSingle r v).irqSeen = s.irqSeen := by unfold State.setSingle; split <;> rfl
@[simp] theorem State.setSingle_ttmr (s : State) (r : RegNo) (v : Word32) : (s.setSingle r v).ttmr = s.ttmr := by unfold State.setSingle; split <;> rfl
@[simp] theorem State.setSingle_ttcr (s : State) (r : RegNo) (v : Word32) : (s.setSingle r v).ttcr = s.ttcr := by unfold State.setSingle; split <;> rfl
@[simp] theorem State.setSingle_ompic (s : State) (r : RegNo) (v : Word32) : (s.setSingle r v).ompic = s.ompic := by unfold State.setSingle; split <;> rfl
@[simp] theorem State.setSingle_mem (s : State) (r : RegNo) (v : Word32) : (s.setSingle r v).mem = s.mem := by unfold State.setSingle; split <;> rfl
@[simp] theorem State.setSingle_env (s : State) (r : RegNo) (v : Word32) : (s.setSingle r v).env = s.env := by unfold State.setSingle; split <;> rfl
@[simp] theorem State.setSingle_extWp (s : State) (r : RegNo) (v : Word32) : (s.setSingle r v).extWp = s.extWp := by unfold State.setSingle; split <;> rfl
@[simp] theorem State.setSingle_free (s : State) (r : RegNo) (v : Word32) : (s.setSingle r v).free = s.free := by unfold State.setSingle; split <;> rfl
@[simp] theorem State.setSingle_dbgPending (s : State) (r : RegNo) (v : Word32) : (s.setSingle r v).dbgPending = s.dbgPending := by unfold State.setSingle; split <;> rfl
@[simp] theorem State.setSingle_acc (s : State) (r : RegNo) (v : Word32) : (s.setSingle r v).acc = s.acc := by unfold State.setSingle; split <;> rfl
@[simp] theorem State.setSingle_exc (s : State) (r : RegNo) (v : Word32) : (s.setSingle r v).exc = s.exc := by unfold State.setSingle; split <;> rfl

@[simp] theorem State.setDouble_cfg (s : State) (r : RegNo) (o : BitVec 1) (v : BitVec 64) : (s.setDouble r o v).cfg = s.cfg := by unfold State.setDouble; split <;> rfl
@[simp] theorem State.setDouble_pc (s : State) (r : RegNo) (o : BitVec 1) (v : BitVec 64) : (s.setDouble r o v).pc = s.pc := by unfold State.setDouble; split <;> rfl
@[simp] theorem State.setDouble_ppc (s : State) (r : RegNo) (o : BitVec 1) (v : BitVec 64) : (s.setDouble r o v).ppc = s.ppc := by unfold State.setDouble; split <;> rfl
@[simp] theorem State.setDouble_ds (s : State) (r : RegNo) (o : BitVec 1) (v : BitVec 64) : (s.setDouble r o v).ds = s.ds := by unfold State.setDouble; split <;> rfl
@[simp] theorem State.setDouble_sr (s : State) (r : RegNo) (o : BitVec 1) (v : BitVec 64) : (s.setDouble r o v).sr = s.sr := by unfold State.setDouble; split <;> rfl
@[simp] theorem State.setDouble_epcr (s : State) (r : RegNo) (o : BitVec 1) (v : BitVec 64) : (s.setDouble r o v).epcr = s.epcr := by unfold State.setDouble; split <;> rfl
@[simp] theorem State.setDouble_eear (s : State) (r : RegNo) (o : BitVec 1) (v : BitVec 64) : (s.setDouble r o v).eear = s.eear := by unfold State.setDouble; split <;> rfl
@[simp] theorem State.setDouble_esr (s : State) (r : RegNo) (o : BitVec 1) (v : BitVec 64) : (s.setDouble r o v).esr = s.esr := by unfold State.setDouble; split <;> rfl
@[simp] theorem State.setDouble_evbar (s : State) (r : RegNo) (o : BitVec 1) (v : BitVec 64) : (s.setDouble r o v).evbar = s.evbar := by unfold State.setDouble; split <;> rfl
@[simp] theorem State.setDouble_aecr (s : State) (r : RegNo) (o : BitVec 1) (v : BitVec 64) : (s.setDouble r o v).aecr = s.aecr := by unfold State.setDouble; split <;> rfl
@[simp] theorem State.setDouble_aesr (s : State) (r : RegNo) (o : BitVec 1) (v : BitVec 64) : (s.setDouble r o v).aesr = s.aesr := by unfold State.setDouble; split <;> rfl
@[simp] theorem State.setDouble_fpcsr (s : State) (r : RegNo) (o : BitVec 1) (v : BitVec 64) : (s.setDouble r o v).fpcsr = s.fpcsr := by unfold State.setDouble; split <;> rfl
@[simp] theorem State.setDouble_maclo (s : State) (r : RegNo) (o : BitVec 1) (v : BitVec 64) : (s.setDouble r o v).maclo = s.maclo := by unfold State.setDouble; split <;> rfl
@[simp] theorem State.setDouble_machi (s : State) (r : RegNo) (o : BitVec 1) (v : BitVec 64) : (s.setDouble r o v).machi = s.machi := by unfold State.setDouble; split <;> rfl
@[simp] theorem State.setDouble_fpmaddlo (s : State) (r : RegNo) (o : BitVec 1) (v : BitVec 64) : (s.setDouble r o v).fpmaddlo = s.fpmaddlo := by unfold State.setDouble; split <;> rfl
@[simp] theorem State.setDouble_fpmaddhi (s : State) (r : RegNo) (o : BitVec 1) (v : BitVec 64) : (s.setDouble r o v).fpmaddhi = s.fpmaddhi := by unfold State.setDouble; split <;> rfl
@[simp] theorem State.setDouble_vmaclo (s : State) (r : RegNo) (o : BitVec 1) (v : BitVec 64) : (s.setDouble r o v).vmaclo = s.vmaclo := by unfold State.setDouble; split <;> rfl
@[simp] theorem State.setDouble_vmachi (s : State) (r : RegNo) (o : BitVec 1) (v : BitVec 64) : (s.setDouble r o v).vmachi = s.vmachi := by unfold State.setDouble; split <;> rfl
@[simp] theorem State.setDouble_resv (s : State) (r : RegNo) (o : BitVec 1) (v : BitVec 64) : (s.setDouble r o v).resv = s.resv := by unfold State.setDouble; split <;> rfl
@[simp] theorem State.setDouble_dmmu (s : State) (r : RegNo) (o : BitVec 1) (v : BitVec 64) : (s.setDouble r o v).dmmu = s.dmmu := by unfold State.setDouble; split <;> rfl
@[simp] theorem State.setDouble_immu (s : State) (r : RegNo) (o : BitVec 1) (v : BitVec 64) : (s.setDouble r o v).immu = s.immu := by unfold State.setDouble; split <;> rfl
@[simp] theorem State.setDouble_dccr (s : State) (r : RegNo) (o : BitVec 1) (v : BitVec 64) : (s.setDouble r o v).dccr = s.dccr := by unfold State.setDouble; split <;> rfl
@[simp] theorem State.setDouble_iccr (s : State) (r : RegNo) (o : BitVec 1) (v : BitVec 64) : (s.setDouble r o v).iccr = s.iccr := by unfold State.setDouble; split <;> rfl
@[simp] theorem State.setDouble_dbg (s : State) (r : RegNo) (o : BitVec 1) (v : BitVec 64) : (s.setDouble r o v).dbg = s.dbg := by unfold State.setDouble; split <;> rfl
@[simp] theorem State.setDouble_pccr (s : State) (r : RegNo) (o : BitVec 1) (v : BitVec 64) : (s.setDouble r o v).pccr = s.pccr := by unfold State.setDouble; split <;> rfl
@[simp] theorem State.setDouble_pcmr (s : State) (r : RegNo) (o : BitVec 1) (v : BitVec 64) : (s.setDouble r o v).pcmr = s.pcmr := by unfold State.setDouble; split <;> rfl
@[simp] theorem State.setDouble_pmr (s : State) (r : RegNo) (o : BitVec 1) (v : BitVec 64) : (s.setDouble r o v).pmr = s.pmr := by unfold State.setDouble; split <;> rfl
@[simp] theorem State.setDouble_status (s : State) (r : RegNo) (o : BitVec 1) (v : BitVec 64) : (s.setDouble r o v).status = s.status := by unfold State.setDouble; split <;> rfl
@[simp] theorem State.setDouble_picmr (s : State) (r : RegNo) (o : BitVec 1) (v : BitVec 64) : (s.setDouble r o v).picmr = s.picmr := by unfold State.setDouble; split <;> rfl
@[simp] theorem State.setDouble_picLatch (s : State) (r : RegNo) (o : BitVec 1) (v : BitVec 64) : (s.setDouble r o v).picLatch = s.picLatch := by unfold State.setDouble; split <;> rfl
@[simp] theorem State.setDouble_irqIn (s : State) (r : RegNo) (o : BitVec 1) (v : BitVec 64) : (s.setDouble r o v).irqIn = s.irqIn := by unfold State.setDouble; split <;> rfl
@[simp] theorem State.setDouble_irqSeen (s : State) (r : RegNo) (o : BitVec 1) (v : BitVec 64) : (s.setDouble r o v).irqSeen = s.irqSeen := by unfold State.setDouble; split <;> rfl
@[simp] theorem State.setDouble_ttmr (s : State) (r : RegNo) (o : BitVec 1) (v : BitVec 64) : (s.setDouble r o v).ttmr = s.ttmr := by unfold State.setDouble; split <;> rfl
@[simp] theorem State.setDouble_ttcr (s : State) (r : RegNo) (o : BitVec 1) (v : BitVec 64) : (s.setDouble r o v).ttcr = s.ttcr := by unfold State.setDouble; split <;> rfl
@[simp] theorem State.setDouble_ompic (s : State) (r : RegNo) (o : BitVec 1) (v : BitVec 64) : (s.setDouble r o v).ompic = s.ompic := by unfold State.setDouble; split <;> rfl
@[simp] theorem State.setDouble_mem (s : State) (r : RegNo) (o : BitVec 1) (v : BitVec 64) : (s.setDouble r o v).mem = s.mem := by unfold State.setDouble; split <;> rfl
@[simp] theorem State.setDouble_env (s : State) (r : RegNo) (o : BitVec 1) (v : BitVec 64) : (s.setDouble r o v).env = s.env := by unfold State.setDouble; split <;> rfl
@[simp] theorem State.setDouble_extWp (s : State) (r : RegNo) (o : BitVec 1) (v : BitVec 64) : (s.setDouble r o v).extWp = s.extWp := by unfold State.setDouble; split <;> rfl
@[simp] theorem State.setDouble_free (s : State) (r : RegNo) (o : BitVec 1) (v : BitVec 64) : (s.setDouble r o v).free = s.free := by unfold State.setDouble; split <;> rfl
@[simp] theorem State.setDouble_dbgPending (s : State) (r : RegNo) (o : BitVec 1) (v : BitVec 64) : (s.setDouble r o v).dbgPending = s.dbgPending := by unfold State.setDouble; split <;> rfl
@[simp] theorem State.setDouble_acc (s : State) (r : RegNo) (o : BitVec 1) (v : BitVec 64) : (s.setDouble r o v).acc = s.acc := by unfold State.setDouble; split <;> rfl
@[simp] theorem State.setDouble_exc (s : State) (r : RegNo) (o : BitVec 1) (v : BitVec 64) : (s.setDouble r o v).exc = s.exc := by unfold State.setDouble; split <;> rfl

@[simp] theorem State.recordCauses_cfg (s : State) (c : Word32) : (s.recordCauses c).cfg = s.cfg := by unfold State.recordCauses; split <;> rfl
@[simp] theorem State.recordCauses_gpr (s : State) (c : Word32) : (s.recordCauses c).gpr = s.gpr := by unfold State.recordCauses; split <;> rfl
@[simp] theorem State.recordCauses_pc (s : State) (c : Word32) : (s.recordCauses c).pc = s.pc := by unfold State.recordCauses; split <;> rfl
@[simp] theorem State.recordCauses_ppc (s : State) (c : Word32) : (s.recordCauses c).ppc = s.ppc := by unfold State.recordCauses; split <;> rfl
@[simp] theorem State.recordCauses_ds (s : State) (c : Word32) : (s.recordCauses c).ds = s.ds := by unfold State.recordCauses; split <;> rfl
@[simp] theorem State.recordCauses_sr (s : State) (c : Word32) : (s.recordCauses c).sr = s.sr := by unfold State.recordCauses; split <;> rfl
@[simp] theorem State.recordCauses_epcr (s : State) (c : Word32) : (s.recordCauses c).epcr = s.epcr := by unfold State.recordCauses; split <;> rfl
@[simp] theorem State.recordCauses_eear (s : State) (c : Word32) : (s.recordCauses c).eear = s.eear := by unfold State.recordCauses; split <;> rfl
@[simp] theorem State.recordCauses_esr (s : State) (c : Word32) : (s.recordCauses c).esr = s.esr := by unfold State.recordCauses; split <;> rfl
@[simp] theorem State.recordCauses_evbar (s : State) (c : Word32) : (s.recordCauses c).evbar = s.evbar := by unfold State.recordCauses; split <;> rfl
@[simp] theorem State.recordCauses_aecr (s : State) (c : Word32) : (s.recordCauses c).aecr = s.aecr := by unfold State.recordCauses; split <;> rfl
@[simp] theorem State.recordCauses_fpcsr (s : State) (c : Word32) : (s.recordCauses c).fpcsr = s.fpcsr := by unfold State.recordCauses; split <;> rfl
@[simp] theorem State.recordCauses_maclo (s : State) (c : Word32) : (s.recordCauses c).maclo = s.maclo := by unfold State.recordCauses; split <;> rfl
@[simp] theorem State.recordCauses_machi (s : State) (c : Word32) : (s.recordCauses c).machi = s.machi := by unfold State.recordCauses; split <;> rfl
@[simp] theorem State.recordCauses_fpmaddlo (s : State) (c : Word32) : (s.recordCauses c).fpmaddlo = s.fpmaddlo := by unfold State.recordCauses; split <;> rfl
@[simp] theorem State.recordCauses_fpmaddhi (s : State) (c : Word32) : (s.recordCauses c).fpmaddhi = s.fpmaddhi := by unfold State.recordCauses; split <;> rfl
@[simp] theorem State.recordCauses_vmaclo (s : State) (c : Word32) : (s.recordCauses c).vmaclo = s.vmaclo := by unfold State.recordCauses; split <;> rfl
@[simp] theorem State.recordCauses_vmachi (s : State) (c : Word32) : (s.recordCauses c).vmachi = s.vmachi := by unfold State.recordCauses; split <;> rfl
@[simp] theorem State.recordCauses_resv (s : State) (c : Word32) : (s.recordCauses c).resv = s.resv := by unfold State.recordCauses; split <;> rfl
@[simp] theorem State.recordCauses_dmmu (s : State) (c : Word32) : (s.recordCauses c).dmmu = s.dmmu := by unfold State.recordCauses; split <;> rfl
@[simp] theorem State.recordCauses_immu (s : State) (c : Word32) : (s.recordCauses c).immu = s.immu := by unfold State.recordCauses; split <;> rfl
@[simp] theorem State.recordCauses_dccr (s : State) (c : Word32) : (s.recordCauses c).dccr = s.dccr := by unfold State.recordCauses; split <;> rfl
@[simp] theorem State.recordCauses_iccr (s : State) (c : Word32) : (s.recordCauses c).iccr = s.iccr := by unfold State.recordCauses; split <;> rfl
@[simp] theorem State.recordCauses_dbg (s : State) (c : Word32) : (s.recordCauses c).dbg = s.dbg := by unfold State.recordCauses; split <;> rfl
@[simp] theorem State.recordCauses_pccr (s : State) (c : Word32) : (s.recordCauses c).pccr = s.pccr := by unfold State.recordCauses; split <;> rfl
@[simp] theorem State.recordCauses_pcmr (s : State) (c : Word32) : (s.recordCauses c).pcmr = s.pcmr := by unfold State.recordCauses; split <;> rfl
@[simp] theorem State.recordCauses_pmr (s : State) (c : Word32) : (s.recordCauses c).pmr = s.pmr := by unfold State.recordCauses; split <;> rfl
@[simp] theorem State.recordCauses_status (s : State) (c : Word32) : (s.recordCauses c).status = s.status := by unfold State.recordCauses; split <;> rfl
@[simp] theorem State.recordCauses_picmr (s : State) (c : Word32) : (s.recordCauses c).picmr = s.picmr := by unfold State.recordCauses; split <;> rfl
@[simp] theorem State.recordCauses_picLatch (s : State) (c : Word32) : (s.recordCauses c).picLatch = s.picLatch := by unfold State.recordCauses; split <;> rfl
@[simp] theorem State.recordCauses_irqIn (s : State) (c : Word32) : (s.recordCauses c).irqIn = s.irqIn := by unfold State.recordCauses; split <;> rfl
@[simp] theorem State.recordCauses_irqSeen (s : State) (c : Word32) : (s.recordCauses c).irqSeen = s.irqSeen := by unfold State.recordCauses; split <;> rfl
@[simp] theorem State.recordCauses_ttmr (s : State) (c : Word32) : (s.recordCauses c).ttmr = s.ttmr := by unfold State.recordCauses; split <;> rfl
@[simp] theorem State.recordCauses_ttcr (s : State) (c : Word32) : (s.recordCauses c).ttcr = s.ttcr := by unfold State.recordCauses; split <;> rfl
@[simp] theorem State.recordCauses_ompic (s : State) (c : Word32) : (s.recordCauses c).ompic = s.ompic := by unfold State.recordCauses; split <;> rfl
@[simp] theorem State.recordCauses_mem (s : State) (c : Word32) : (s.recordCauses c).mem = s.mem := by unfold State.recordCauses; split <;> rfl
@[simp] theorem State.recordCauses_env (s : State) (c : Word32) : (s.recordCauses c).env = s.env := by unfold State.recordCauses; split <;> rfl
@[simp] theorem State.recordCauses_extWp (s : State) (c : Word32) : (s.recordCauses c).extWp = s.extWp := by unfold State.recordCauses; split <;> rfl
@[simp] theorem State.recordCauses_free (s : State) (c : Word32) : (s.recordCauses c).free = s.free := by unfold State.recordCauses; split <;> rfl
@[simp] theorem State.recordCauses_dbgPending (s : State) (c : Word32) : (s.recordCauses c).dbgPending = s.dbgPending := by unfold State.recordCauses; split <;> rfl
@[simp] theorem State.recordCauses_acc (s : State) (c : Word32) : (s.recordCauses c).acc = s.acc := by unfold State.recordCauses; split <;> rfl
@[simp] theorem State.recordCauses_exc (s : State) (c : Word32) : (s.recordCauses c).exc = s.exc := by unfold State.recordCauses; split <;> rfl

@[simp] theorem State.setMmu_cfg (s : State) (k : AccKind) (m : MmuRegs) : (s.setMmu k m).cfg = s.cfg := by unfold State.setMmu; split <;> (try split) <;> rfl
@[simp] theorem State.setMmu_gpr (s : State) (k : AccKind) (m : MmuRegs) : (s.setMmu k m).gpr = s.gpr := by unfold State.setMmu; split <;> (try split) <;> rfl
@[simp] theorem State.setMmu_pc (s : State) (k : AccKind) (m : MmuRegs) : (s.setMmu k m).pc = s.pc := by unfold State.setMmu; split <;> (try split) <;> rfl
@[simp] theorem State.setMmu_ppc (s : State) (k : AccKind) (m : MmuRegs) : (s.setMmu k m).ppc = s.ppc := by unfold State.setMmu; split <;> (try split) <;> rfl
@[simp] theorem State.setMmu_ds (s : State) (k : AccKind) (m : MmuRegs) : (s.setMmu k m).ds = s.ds := by unfold State.setMmu; split <;> (try split) <;> rfl
@[simp] theorem State.setMmu_sr (s : State) (k : AccKind) (m : MmuRegs) : (s.setMmu k m).sr = s.sr := by unfold State.setMmu; split <;> (try split) <;> rfl
@[simp] theorem State.setMmu_epcr (s : State) (k : AccKind) (m : MmuRegs) : (s.setMmu k m).epcr = s.epcr := by unfold State.setMmu; split <;> (try split) <;> rfl
@[simp] theorem State.setMmu_eear (s : State) (k : AccKind) (m : MmuRegs) : (s.setMmu k m).eear = s.eear := by unfold State.setMmu; split <;> (try split) <;> rfl
@[simp] theorem State.setMmu_esr (s : State) (k : AccKind) (m : MmuRegs) : (s.setMmu k m).esr = s.esr := by unfold State.setMmu; split <;> (try split) <;> rfl
@[simp] theorem State.setMmu_evbar (s : State) (k : AccKind) (m : MmuRegs) : (s.setMmu k m).evbar = s.evbar := by unfold State.setMmu; split <;> (try split) <;> rfl
@[simp] theorem State.setMmu_aecr (s : State) (k : AccKind) (m : MmuRegs) : (s.setMmu k m).aecr = s.aecr := by unfold State.setMmu; split <;> (try split) <;> rfl
@[simp] theorem State.setMmu_aesr (s : State) (k : AccKind) (m : MmuRegs) : (s.setMmu k m).aesr = s.aesr := by unfold State.setMmu; split <;> (try split) <;> rfl
@[simp] theorem State.setMmu_fpcsr (s : State) (k : AccKind) (m : MmuRegs) : (s.setMmu k m).fpcsr = s.fpcsr := by unfold State.setMmu; split <;> (try split) <;> rfl
@[simp] theorem State.setMmu_maclo (s : State) (k : AccKind) (m : MmuRegs) : (s.setMmu k m).maclo = s.maclo := by unfold State.setMmu; split <;> (try split) <;> rfl
@[simp] theorem State.setMmu_machi (s : State) (k : AccKind) (m : MmuRegs) : (s.setMmu k m).machi = s.machi := by unfold State.setMmu; split <;> (try split) <;> rfl
@[simp] theorem State.setMmu_fpmaddlo (s : State) (k : AccKind) (m : MmuRegs) : (s.setMmu k m).fpmaddlo = s.fpmaddlo := by unfold State.setMmu; split <;> (try split) <;> rfl
@[simp] theorem State.setMmu_fpmaddhi (s : State) (k : AccKind) (m : MmuRegs) : (s.setMmu k m).fpmaddhi = s.fpmaddhi := by unfold State.setMmu; split <;> (try split) <;> rfl
@[simp] theorem State.setMmu_vmaclo (s : State) (k : AccKind) (m : MmuRegs) : (s.setMmu k m).vmaclo = s.vmaclo := by unfold State.setMmu; split <;> (try split) <;> rfl
@[simp] theorem State.setMmu_vmachi (s : State) (k : AccKind) (m : MmuRegs) : (s.setMmu k m).vmachi = s.vmachi := by unfold State.setMmu; split <;> (try split) <;> rfl
@[simp] theorem State.setMmu_resv (s : State) (k : AccKind) (m : MmuRegs) : (s.setMmu k m).resv = s.resv := by unfold State.setMmu; split <;> (try split) <;> rfl
@[simp] theorem State.setMmu_dccr (s : State) (k : AccKind) (m : MmuRegs) : (s.setMmu k m).dccr = s.dccr := by unfold State.setMmu; split <;> (try split) <;> rfl
@[simp] theorem State.setMmu_iccr (s : State) (k : AccKind) (m : MmuRegs) : (s.setMmu k m).iccr = s.iccr := by unfold State.setMmu; split <;> (try split) <;> rfl
@[simp] theorem State.setMmu_dbg (s : State) (k : AccKind) (m : MmuRegs) : (s.setMmu k m).dbg = s.dbg := by unfold State.setMmu; split <;> (try split) <;> rfl
@[simp] theorem State.setMmu_pccr (s : State) (k : AccKind) (m : MmuRegs) : (s.setMmu k m).pccr = s.pccr := by unfold State.setMmu; split <;> (try split) <;> rfl
@[simp] theorem State.setMmu_pcmr (s : State) (k : AccKind) (m : MmuRegs) : (s.setMmu k m).pcmr = s.pcmr := by unfold State.setMmu; split <;> (try split) <;> rfl
@[simp] theorem State.setMmu_pmr (s : State) (k : AccKind) (m : MmuRegs) : (s.setMmu k m).pmr = s.pmr := by unfold State.setMmu; split <;> (try split) <;> rfl
@[simp] theorem State.setMmu_status (s : State) (k : AccKind) (m : MmuRegs) : (s.setMmu k m).status = s.status := by unfold State.setMmu; split <;> (try split) <;> rfl
@[simp] theorem State.setMmu_picmr (s : State) (k : AccKind) (m : MmuRegs) : (s.setMmu k m).picmr = s.picmr := by unfold State.setMmu; split <;> (try split) <;> rfl
@[simp] theorem State.setMmu_picLatch (s : State) (k : AccKind) (m : MmuRegs) : (s.setMmu k m).picLatch = s.picLatch := by unfold State.setMmu; split <;> (try split) <;> rfl
@[simp] theorem State.setMmu_irqIn (s : State) (k : AccKind) (m : MmuRegs) : (s.setMmu k m).irqIn = s.irqIn := by unfold State.setMmu; split <;> (try split) <;> rfl
@[simp] theorem State.setMmu_irqSeen (s : State) (k : AccKind) (m : MmuRegs) : (s.setMmu k m).irqSeen = s.irqSeen := by unfold State.setMmu; split <;> (try split) <;> rfl
@[simp] theorem State.setMmu_ttmr (s : State) (k : AccKind) (m : MmuRegs) : (s.setMmu k m).ttmr = s.ttmr := by unfold State.setMmu; split <;> (try split) <;> rfl
@[simp] theorem State.setMmu_ttcr (s : State) (k : AccKind) (m : MmuRegs) : (s.setMmu k m).ttcr = s.ttcr := by unfold State.setMmu; split <;> (try split) <;> rfl
@[simp] theorem State.setMmu_ompic (s : State) (k : AccKind) (m : MmuRegs) : (s.setMmu k m).ompic = s.ompic := by unfold State.setMmu; split <;> (try split) <;> rfl
@[simp] theorem State.setMmu_mem (s : State) (k : AccKind) (m : MmuRegs) : (s.setMmu k m).mem = s.mem := by unfold State.setMmu; split <;> (try split) <;> rfl
@[simp] theorem State.setMmu_env (s : State) (k : AccKind) (m : MmuRegs) : (s.setMmu k m).env = s.env := by unfold State.setMmu; split <;> (try split) <;> rfl
@[simp] theorem State.setMmu_extWp (s : State) (k : AccKind) (m : MmuRegs) : (s.setMmu k m).extWp = s.extWp := by unfold State.setMmu; split <;> (try split) <;> rfl
@[simp] theorem State.setMmu_free (s : State) (k : AccKind) (m : MmuRegs) : (s.setMmu k m).free = s.free := by unfold State.setMmu; split <;> (try split) <;> rfl
@[simp] theorem State.setMmu_dbgPending (s : State) (k : AccKind) (m : MmuRegs) : (s.setMmu k m).dbgPending = s.dbgPending := by unfold State.setMmu; split <;> (try split) <;> rfl
@[simp] theorem State.setMmu_acc (s : State) (k : AccKind) (m : MmuRegs) : (s.setMmu k m).acc = s.acc := by unfold State.setMmu; split <;> (try split) <;> rfl
@[simp] theorem State.setMmu_exc (s : State) (k : AccKind) (m : MmuRegs) : (s.setMmu k m).exc = s.exc := by unfold State.setMmu; split <;> (try split) <;> rfl

@[simp] theorem enter_cfg (e : Exc) (a : Word) (ea : Option Word) (s : State) : (enter e a ea s).cfg = s.cfg := by unfold enter; split <;> rfl
@[simp] theorem enter_gpr (e : Exc) (a : Word) (ea : Option Word) (s : State) : (enter e a ea s).gpr = s.gpr := by unfold enter; split <;> rfl
@[simp] theorem enter_ppc (e : Exc) (a : Word) (ea : Option Word) (s : State) : (enter e a ea s).ppc = s.ppc := by unfold enter; split <;> rfl
@[simp] theorem enter_evbar (e : Exc) (a : Word) (ea : Option Word) (s : State) : (enter e a ea s).evbar = s.evbar := by unfold enter; split <;> rfl
@[simp] theorem enter_aecr (e : Exc) (a : Word) (ea : Option Word) (s : State) : (enter e a ea s).aecr = s.aecr := by unfold enter; split <;> rfl
@[simp] theorem enter_aesr (e : Exc) (a : Word) (ea : Option Word) (s : State) : (enter e a ea s).aesr = s.aesr := by unfold enter; split <;> rfl
@[simp] theorem enter_fpcsr (e : Exc) (a : Word) (ea : Option Word) (s : State) : (enter e a ea s).fpcsr = s.fpcsr := by unfold enter; split <;> rfl
@[simp] theorem enter_maclo (e : Exc) (a : Word) (ea : Option Word) (s : State) : (enter e a ea s).maclo = s.maclo := by unfold enter; split <;> rfl
@[simp] theorem enter_machi (e : Exc) (a : Word) (ea : Option Word) (s : State) : (enter e a ea s).machi = s.machi := by unfold enter; split <;> rfl
@[simp] theorem enter_fpmaddlo (e : Exc) (a : Word) (ea : Option Word) (s : State) : (enter e a ea s).fpmaddlo = s.fpmaddlo := by unfold enter; split <;> rfl
@[simp] theorem enter_fpmaddhi (e : Exc) (a : Word) (ea : Option Word) (s : State) : (enter e a ea s).fpmaddhi = s.fpmaddhi := by unfold enter; split <;> rfl
@[simp] theorem enter_vmaclo (e : Exc) (a : Word) (ea : Option Word) (s : State) : (enter e a ea s).vmaclo = s.vmaclo := by unfold enter; split <;> rfl
@[simp] theorem enter_vmachi (e : Exc) (a : Word) (ea : Option Word) (s : State) : (enter e a ea s).vmachi = s.vmachi := by unfold enter; split <;> rfl
@[simp] theorem enter_dmmu (e : Exc) (a : Word) (ea : Option Word) (s : State) : (enter e a ea s).dmmu = s.dmmu := by unfold enter; split <;> rfl
@[simp] theorem enter_immu (e : Exc) (a : Word) (ea : Option Word) (s : State) : (enter e a ea s).immu = s.immu := by unfold enter; split <;> rfl
@[simp] theorem enter_dccr (e : Exc) (a : Word) (ea : Option Word) (s : State) : (enter e a ea s).dccr = s.dccr := by unfold enter; split <;> rfl
@[simp] theorem enter_iccr (e : Exc) (a : Word) (ea : Option Word) (s : State) : (enter e a ea s).iccr = s.iccr := by unfold enter; split <;> rfl
@[simp] theorem enter_pccr (e : Exc) (a : Word) (ea : Option Word) (s : State) : (enter e a ea s).pccr = s.pccr := by unfold enter; split <;> rfl
@[simp] theorem enter_pcmr (e : Exc) (a : Word) (ea : Option Word) (s : State) : (enter e a ea s).pcmr = s.pcmr := by unfold enter; split <;> rfl
@[simp] theorem enter_pmr (e : Exc) (a : Word) (ea : Option Word) (s : State) : (enter e a ea s).pmr = s.pmr := by unfold enter; split <;> rfl
@[simp] theorem enter_picmr (e : Exc) (a : Word) (ea : Option Word) (s : State) : (enter e a ea s).picmr = s.picmr := by unfold enter; split <;> rfl
@[simp] theorem enter_picLatch (e : Exc) (a : Word) (ea : Option Word) (s : State) : (enter e a ea s).picLatch = s.picLatch := by unfold enter; split <;> rfl
@[simp] theorem enter_irqIn (e : Exc) (a : Word) (ea : Option Word) (s : State) : (enter e a ea s).irqIn = s.irqIn := by unfold enter; split <;> rfl
@[simp] theorem enter_irqSeen (e : Exc) (a : Word) (ea : Option Word) (s : State) : (enter e a ea s).irqSeen = s.irqSeen := by unfold enter; split <;> rfl
@[simp] theorem enter_ttmr (e : Exc) (a : Word) (ea : Option Word) (s : State) : (enter e a ea s).ttmr = s.ttmr := by unfold enter; split <;> rfl
@[simp] theorem enter_ttcr (e : Exc) (a : Word) (ea : Option Word) (s : State) : (enter e a ea s).ttcr = s.ttcr := by unfold enter; split <;> rfl
@[simp] theorem enter_ompic (e : Exc) (a : Word) (ea : Option Word) (s : State) : (enter e a ea s).ompic = s.ompic := by unfold enter; split <;> rfl
@[simp] theorem enter_mem (e : Exc) (a : Word) (ea : Option Word) (s : State) : (enter e a ea s).mem = s.mem := by unfold enter; split <;> rfl
@[simp] theorem enter_env (e : Exc) (a : Word) (ea : Option Word) (s : State) : (enter e a ea s).env = s.env := by unfold enter; split <;> rfl
@[simp] theorem enter_extWp (e : Exc) (a : Word) (ea : Option Word) (s : State) : (enter e a ea s).extWp = s.extWp := by unfold enter; split <;> rfl
@[simp] theorem enter_free (e : Exc) (a : Word) (ea : Option Word) (s : State) : (enter e a ea s).free = s.free := by unfold enter; split <;> rfl
@[simp] theorem enter_dbgPending (e : Exc) (a : Word) (ea : Option Word) (s : State) : (enter e a ea s).dbgPending = s.dbgPending := by unfold enter; split <;> rfl
@[simp] theorem enter_acc (e : Exc) (a : Word) (ea : Option Word) (s : State) : (enter e a ea s).acc = s.acc := by unfold enter; split <;> rfl
@[simp] theorem enter_exc (e : Exc) (a : Word) (ea : Option Word) (s : State) : (enter e a ea s).exc = some e := by unfold enter; split <;> rfl

end Sys2Proof.Machine
end

