-- ==== Sys2Proof/Laws/Width.lean ====
section
/-! SUPPORT. XLEN-wide values: what truncation leaves, and the bits of SR after a flag is written. -/

namespace Sys2Proof.Machine

@[simp] theorem trunc_trunc (c : Config) (w : Word) : trunc c (trunc c w) = trunc c w := by
  unfold trunc; cases c.xlen <;> simp

theorem trunc_eq_mod (c : Config) (w : Word) : (trunc c w).toNat = w.toNat % 2 ^ xlenBits c := by
  unfold trunc xlenBits
  cases c.xlen
  · simp; omega
  · simp; omega

theorem toU_eq_mod (c : Config) (w : Word) : toU c w = w.toNat % 2 ^ xlenBits c := by
  unfold toU xlenBits
  cases c.xlen
  · simp
  · simp; omega

theorem toU_trunc (c : Config) (w : Word) : toU c (trunc c w) = toU c w := by
  rw [toU_eq_mod, toU_eq_mod, trunc_eq_mod, Nat.mod_mod]

theorem toS_trunc (c : Config) (w : Word) : toS c (trunc c w) = toS c w := by
  unfold toS trunc; cases c.xlen <;> simp

theorem trunc_of_lt (c : Config) (w : Word) (h : w.toNat < 2 ^ xlenBits c) : trunc c w = w :=
  BitVec.eq_of_toNat_eq (by rw [trunc_eq_mod, Nat.mod_eq_of_lt h])

theorem trunc_eq_iff (c : Config) (w : Word) : trunc c w = w ↔ w.toNat < 2 ^ xlenBits c := by
  constructor
  · intro h; rw [← h, trunc_eq_mod]; exact Nat.mod_lt _ (Nat.two_pow_pos _)
  · exact trunc_of_lt c w

theorem toNat_lt_of_trunc (c : Config) (w : Word) : (trunc c w).toNat < 2 ^ xlenBits c := by
  rw [trunc_eq_mod]; exact Nat.mod_lt _ (Nat.two_pow_pos _)

@[simp] theorem trunc_reg (s : State) (r : RegNo) : trunc s.cfg (s.reg r) = s.reg r := trunc_trunc _ _

theorem trunc_and (c : Config) (x y : Word) : trunc c (x &&& y) = trunc c x &&& trunc c y := by
  unfold trunc; cases c.xlen <;> simp [BitVec.setWidth_and]

theorem trunc_or (c : Config) (x y : Word) : trunc c (x ||| y) = trunc c x ||| trunc c y := by
  unfold trunc; cases c.xlen <;> simp [BitVec.setWidth_or]

theorem trunc_xor (c : Config) (x y : Word) : trunc c (x ^^^ y) = trunc c x ^^^ trunc c y := by
  unfold trunc; cases c.xlen <;> simp [BitVec.setWidth_xor]

@[simp] theorem trunc_sext (c : Config) {n : Nat} (v : BitVec n) : trunc c (sext c v) = sext c v := trunc_trunc _ _

@[simp] theorem trunc_ofI (c : Config) (z : Int) : trunc c (ofI c z) = ofI c z := trunc_trunc _ _

@[simp] theorem trunc_ofN (c : Config) (n : Nat) : trunc c (ofN c n) = ofN c n := trunc_trunc _ _

theorem trunc_zext (c : Config) {n : Nat} (v : BitVec n) (h : n ≤ 32) : trunc c (zext v) = zext v := by
  refine trunc_of_lt c _ ?_
  have := v.isLt
  have h1 : 2 ^ n ≤ 2 ^ 32 := Nat.pow_le_pow_right (by decide) h
  have h2 : 2 ^ 32 ≤ 2 ^ xlenBits c := Nat.pow_le_pow_right (by decide) (by unfold xlenBits; split <;> decide)
  have : (zext v).toNat ≤ v.toNat := by unfold zext; simp; exact Nat.mod_le _ _
  omega

theorem trunc_x64 (c : Config) (w : Word) (h : c.xlen = .x64) : trunc c w = w := by
  unfold trunc; rw [h]

/-- A bit of SR after one bit is replaced. -/
theorem getLsbD_putBit (w : Word32) (k j : Nat) (b : Bool) (hk : k < 32) :
    (putBit w k b).getLsbD j = if j = k then b else w.getLsbD j := by
  unfold putBit
  by_cases hj : j < 32
  · cases b <;> by_cases h : j = k <;>
      simp_all <;> omega
  · have : j ≠ k := by omega
    rw [BitVec.getLsbD_of_ge _ _ (by omega), BitVec.getLsbD_of_ge w _ (by omega)]
    simp [this]

end Sys2Proof.Machine
end

