-- ==== Sys2Proof/Laws/Ops.lean ====
section
/-! SUPPORT. What the shared operations can do, each said once. -/

namespace Sys2Proof.Machine

theorem gate_ready {s : State} {i : Instr} (h : Ready s i) (run : Out State) : gate i s run = run := by
  simp [gate, h.impl, h.regs]

/-- An instruction runs, or is illegal, or names a register that does not exist. -/
theorem gate_cases (i : Instr) (s : State) (run : Out State) :
    (Ready s i ∧ gate i s run = run) ∨
    (implemented s.cfg i = true ∧ regsExist s.cfg i = false ∧ gate i s run = .next (enter .range s.pc none s)) ∨
    (implemented s.cfg i = false ∧ gate i s run = .next (enter .illegal s.pc (some s.pc) s)) := by
  by_cases h1 : implemented s.cfg i = true
  · by_cases h2 : regsExist s.cfg i = true
    · exact .inl ⟨⟨h1, h2⟩, gate_ready ⟨h1, h2⟩ run⟩
    · simp only [Bool.not_eq_true] at h2
      exact .inr (.inl ⟨h1, h2, by simp [gate, h1, h2]⟩)
  · simp only [Bool.not_eq_true] at h1
    exact .inr (.inr ⟨h1, by simp [gate, h1, illegal]⟩)

theorem gate_unimplemented {s : State} {i : Instr} (h : implemented s.cfg i = false) (run : Out State) :
    gate i s run = .next (enter .illegal s.pc (some s.pc) s) := by simp [gate, h, illegal]

theorem gate_missing {s : State} {i : Instr} (h : implemented s.cfg i = true) (h2 : regsExist s.cfg i = false)
    (run : Out State) : gate i s run = .next (enter .range s.pc none s) := by simp [gate, h, h2]

/-- `advance` as one update. -/
theorem advance_eq (s : State) : advance s = { s with pc := s.nextPc, ppc := s.pc, ds := none } := by
  unfold advance State.nextPc
  cases h : s.ds <;> simp

theorem goesOn_advance {s u : State} (hc : u.cfg = s.cfg) (hp : u.pc = s.pc) (hd : u.ds = s.ds) : GoesOn s (advance u) := by
  refine ⟨?_, by simp [hp], by simp⟩
  simp [State.nextPc, hd, hp, hc]

theorem ctx_congr {s t : State} (hc : t.cfg = s.cfg) (h8 : t.sr.getLsbD 8 = s.sr.getLsbD 8)
    (h : t.cid = s.cid) : t.ctx = s.ctx := by
  unfold State.ctx State.fastCtx State.ce
  rw [hc, h8, h]

theorem putBit_cid (w : Word32) (k : Nat) (b : Bool) (hk : k < 28) :
    (putBit w k b).extractLsb' 28 4 = w.extractLsb' 28 4 := by
  ext j hj
  simp only [BitVec.getElem_extractLsb']
  rw [getLsbD_putBit _ _ _ _ (by omega), if_neg (by omega)]

theorem ctx_putBit {s t : State} (hc : t.cfg = s.cfg) (k : Nat) (b : Bool) (hk : k < 28) (h8 : k ≠ 8)
    (h : t.sr = putBit s.sr k b) : t.ctx = s.ctx := by
  refine ctx_congr hc ?_ ?_
  · rw [h, getLsbD_putBit _ _ _ _ (by omega), if_neg (by omega)]
  · simp only [State.cid, h, putBit_cid _ _ _ hk]

@[simp] theorem ctx_setF (s : State) (b : Bool) : (s.setF b).ctx = s.ctx :=
  ctx_putBit rfl 9 b (by decide) (by decide) rfl
@[simp] theorem ctx_setCy (s : State) (b : Bool) : (s.setCy b).ctx = s.ctx :=
  ctx_putBit rfl 10 b (by decide) (by decide) rfl
@[simp] theorem ctx_setOv (s : State) (b : Bool) : (s.setOv b).ctx = s.ctx :=
  ctx_putBit rfl 11 b (by decide) (by decide) rfl
@[simp] theorem ctx_setReg (s : State) (r : RegNo) (v : Word) : (s.setReg r v).ctx = s.ctx := rfl
@[simp] theorem ctx_advance (s : State) : (advance s).ctx = s.ctx := by
  rw [advance_eq]; rfl
@[simp] theorem ctx_executed (s : State) : (executed s).ctx = s.ctx := rfl
@[simp] theorem ctx_drawn (s : State) : s.drawn.ctx = s.ctx := rfl
@[simp] theorem ctx_raise (s : State) (f : Word32) : (s.raise f).ctx = s.ctx := rfl
@[simp] theorem ctx_recordCauses (s : State) (c : Word32) : (s.recordCauses c).ctx = s.ctx := by
  unfold State.recordCauses; split <;> rfl

theorem gprIndex_inj {c c' : BitVec 4} {r r' : RegNo} : gprIndex c r = gprIndex c' r' ↔ c = c' ∧ r = r' := by
  unfold gprIndex
  constructor
  · intro h
    have h1 : (c ++ r).extractLsb' 5 4 = (c' ++ r').extractLsb' 5 4 := by rw [h]
    have h2 : (c ++ r).extractLsb' 0 5 = (c' ++ r').extractLsb' 0 5 := by rw [h]
    constructor
    · ext j hj
      have := congrArg (fun x : BitVec 4 => x.getLsbD j) h1
      simp only [BitVec.getLsbD_extractLsb', BitVec.getLsbD_append] at this
      simpa [hj, show ¬ (5 + j < 5) by omega] using this
    · ext j hj
      have := congrArg (fun x : BitVec 5 => x.getLsbD j) h2
      simp only [BitVec.getLsbD_extractLsb', BitVec.getLsbD_append] at this
      simpa [hj] using this
  · rintro ⟨rfl, rfl⟩; rfl

/-- A register after a write of one register. -/
theorem reg_of_gpr {s t : State} (hc : t.cfg = s.cfg) (hx : t.ctx = s.ctx) (d : RegNo) (v : Word)
    (hg : t.gpr = (s.setReg d v).gpr) (r : RegNo) : t.reg r = if r = d then trunc s.cfg v else s.reg r := by
  unfold State.reg
  rw [hg, hc, hx, State.setReg_gpr]
  by_cases h : r = d
  · subst h; simp
  · rw [if_neg h, Bank.get_set_ne]
    intro hi; exact h (gprIndex_inj.mp hi).2

@[simp] theorem reg_setReg_self (s : State) (d : RegNo) (v : Word) : (s.setReg d v).reg d = trunc s.cfg v := by
  rw [reg_of_gpr (s := s) (t := s.setReg d v) rfl rfl d v rfl, if_pos rfl]

theorem reg_setReg_ne (s : State) (d r : RegNo) (v : Word) (h : r ≠ d) : (s.setReg d v).reg r = s.reg r := by
  rw [reg_of_gpr (s := s) (t := s.setReg d v) rfl rfl d v rfl, if_neg h]

theorem gprFrame_refl {s t : State} (h : t.gpr = s.gpr) (rs : List RegNo) : GprFrame s t rs := by
  intro c r _; rw [h]

theorem gprFrame_setReg {s t : State} (d : RegNo) (v : Word) (h : t.gpr = (s.setReg d v).gpr) : GprFrame s t [d] := by
  intro c r hn
  rw [h, State.setReg_gpr, Bank.get_set_ne]
  intro hi
  obtain ⟨rfl, rfl⟩ := gprIndex_inj.mp hi
  exact hn ⟨rfl, by simp⟩

theorem memFrame_refl {s t : State} (h : t.mem = s.mem) (as : List Nat) : MemFrame s t as := by
  intro a _; rw [h]

/-- A register write followed by nothing but flags completes as `RegResult` says. -/
theorem regResult_intro {i : Instr} {s u : State} {d : RegNo} {v v' : Word} {w : Word32} (he : exec i s = .next (advance u))
    (hu : u = { s with gpr := (s.setReg d v).gpr, sr := w }) (hx : u.ctx = s.ctx) (hv : trunc s.cfg v = v') :
    RegResult i s d v' w := by
  refine ⟨_, he, ?_, by simp [hu], ?_, gprFrame_setReg d v (by simp [hu]), memFrame_refl (by simp [hu]) _, ?_⟩
  · rw [reg_of_gpr (s := s) (by simp [hu]) (by simpa using hx) d v (by simp [hu]), if_pos rfl, hv]
  · exact goesOn_advance (by rw [hu]) (by rw [hu]) (by rw [hu])
  · rw [advance_eq, hu]

/-- A plain register result. -/
theorem regResult_plain {i : Instr} {s : State} {d : RegNo} {v v' : Word}
    (he : exec i s = .next (advance (s.setReg d v))) (hv : trunc s.cfg v = v') : RegResult i s d v' s.sr :=
  regResult_intro he rfl rfl hv

/-- A result in SR alone. -/
theorem srResult_intro {i : Instr} {s u : State} {w : Word32} (he : exec i s = .next (advance u))
    (hu : u = { s with sr := w }) : SrResult i s w := by
  refine ⟨_, he, by simp [hu], goesOn_advance (by rw [hu]) (by rw [hu]) (by rw [hu]), gprFrame_refl (by simp [hu]) _,
    memFrame_refl (by simp [hu]) _, ?_⟩
  rw [advance_eq, hu]

/-- An arithmetic instruction ends in one of two ways. -/
theorem finishArith_cases (causes : Word32) (ov : Bool) (s : State) :
    (rangeDue s causes ov = false ∧ finishArith causes ov s = .next (advance s)) ∨
    (rangeDue s causes ov = true ∧
      finishArith causes ov s = .next (enter .range s.pc none (executed (s.recordCauses causes)))) := by
  unfold finishArith
  cases h : rangeDue s causes ov <;> simp

/-- A floating-point instruction ends in one of two ways. -/
theorem finishFp_cases (flags : Word32) (s : State) :
    ((s.fpee = false ∨ flags = 0) ∧ finishFp flags s = .next (advance (s.raise flags))) ∨
    (s.fpee = true ∧ flags ≠ 0 ∧
      finishFp flags s = .next (enter .floatingPoint (s.pc + 4) none (executed (s.raise flags)))) := by
  unfold finishFp
  by_cases h : (s.fpee && decide (flags ≠ 0)) = true
  · rw [if_pos h]
    simp only [Bool.and_eq_true, decide_eq_true_eq] at h
    exact .inr ⟨h.1, h.2, rfl⟩
  · rw [if_neg h]
    refine .inl ⟨?_, rfl⟩
    cases hf : s.fpee
    · exact .inl rfl
    · right; by_contra h2; exact h (by simp only [hf, Bool.true_and, decide_eq_true_eq]; exact h2)

/-- A jump is refused in a delay slot; outside one it goes at once or after the slot. -/
theorem jump_cases (taken : Bool) (target : Word) (s : State) :
    (s.ds ≠ none ∧ jump taken target s = .refused .jumpInDelaySlot) ∨
    (s.ds = none ∧ s.cfg.nd = true ∧ jump taken target s = .next { s with
      ppc := s.pc, pc := if taken then trunc s.cfg target else trunc s.cfg (s.pc + 4) }) ∨
    (s.ds = none ∧ s.cfg.nd = false ∧ jump taken target s = .next { s with
      ppc := s.pc, pc := trunc s.cfg (s.pc + 4),
      ds := some (if taken then trunc s.cfg target else trunc s.cfg (s.pc + 8)) }) := by
  unfold jump State.inSlot
  cases h : s.ds <;> cases h2 : s.cfg.nd <;> simp

/-- A memory access leads to the continuation, to its exception, or to a refusal. -/
theorem AccRes_run_cases {β : Type} (r : AccRes β) (ea : Word) (k : β → State → Out State) :
    (∃ v s, r = .ok v s ∧ r.run ea k = k v s) ∨
    (∃ e s, r = .exc e s ∧ r.run ea k = .next (enter e s.pc (some ea) s)) ∨
    (∃ x, r = .refuse x ∧ r.run ea k = .refused x) := by
  cases r with
  | ok v s => exact .inl ⟨v, s, rfl, rfl⟩
  | exc e s => exact .inr (.inl ⟨e, s, rfl, rfl⟩)
  | refuse x => exact .inr (.inr ⟨x, rfl, rfl⟩)

/-- Taking an exception where the debug unit does not divert it. -/
theorem enter_eq {e : Exc} {a : Word} {ea : Option Word} {s : State} (h : s.diverts e = false) :
    enter e a ea s = { s with
      esr := s.esr.set s.entryCtx (zext s.sr)
      epcr := s.epcr.set s.entryCtx (s.returnAddr a)
      eear := match (if s.outOfContexts then none else ea) with
        | some x => s.eear.set s.entryCtx (trunc s.cfg x)
        | none => s.eear
      sr := if s.fastCtx then (entrySr s &&& 0x0FFFFFFF) ||| (s.entryCtx.setWidth 32 <<< 28) else entrySr s
      resv := none
      ds := none
      pc := vectorAddr s (if s.outOfContexts then excNumber .range else excNumber e)
      exc := some e } := by
  unfold enter
  exact (if_neg (by simp [h])).trans rfl

/-- An exception that the debug unit diverts. -/
theorem enter_diverted {e : Exc} {a : Word} {ea : Option Word} {s : State} (h : s.diverts e = true) :
    enter e a ea s = { s with
      dbg := { s.dbg with drr := putBit s.dbg.drr (excNumber e - 1) true }
      status := .stopped
      exc := some e } := by
  simp [enter, h]

end Sys2Proof.Machine
end

