-- ==== Sys2Proof/Laws/Flags.lean ====
section
/-! SUPPORT. The bits of SR that other operations leave, and the conditions that depend on them. -/

namespace Sys2Proof.Machine

@[simp] theorem sm_setF (s : State) (b : Bool) : (s.setF b).sm = s.sm := by
  unfold State.sm; rw [State.setF_sr, getLsbD_putBit _ _ _ _ (by decide)]; rfl
@[simp] theorem tee_setF (s : State) (b : Bool) : (s.setF b).tee = s.tee := by
  unfold State.tee; rw [State.setF_sr, getLsbD_putBit _ _ _ _ (by decide)]; rfl
@[simp] theorem iee_setF (s : State) (b : Bool) : (s.setF b).iee = s.iee := by
  unfold State.iee; rw [State.setF_sr, getLsbD_putBit _ _ _ _ (by decide)]; rfl
@[simp] theorem dme_setF (s : State) (b : Bool) : (s.setF b).dme = s.dme := by
  unfold State.dme; rw [State.setF_sr, getLsbD_putBit _ _ _ _ (by decide)]; rfl
@[simp] theorem ime_setF (s : State) (b : Bool) : (s.setF b).ime = s.ime := by
  unfold State.ime; rw [State.setF_sr, getLsbD_putBit _ _ _ _ (by decide)]; rfl
@[simp] theorem lee_setF (s : State) (b : Bool) : (s.setF b).lee = s.lee := by
  unfold State.lee; rw [State.setF_sr, getLsbD_putBit _ _ _ _ (by decide)]; rfl
@[simp] theorem ce_setF (s : State) (b : Bool) : (s.setF b).ce = s.ce := by
  unfold State.ce; rw [State.setF_sr, getLsbD_putBit _ _ _ _ (by decide)]; rfl
@[simp] theorem flag_setF (s : State) (b : Bool) : (s.setF b).flag = b := by
  unfold State.flag; rw [State.setF_sr, getLsbD_putBit _ _ _ _ (by decide)]; rfl
@[simp] theorem cy_setF (s : State) (b : Bool) : (s.setF b).cy = s.cy := by
  unfold State.cy; rw [State.setF_sr, getLsbD_putBit _ _ _ _ (by decide)]; rfl
@[simp] theorem ov_setF (s : State) (b : Bool) : (s.setF b).ov = s.ov := by
  unfold State.ov; rw [State.setF_sr, getLsbD_putBit _ _ _ _ (by decide)]; rfl
@[simp] theorem ove_setF (s : State) (b : Bool) : (s.setF b).ove = s.ove := by
  unfold State.ove; rw [State.setF_sr, getLsbD_putBit _ _ _ _ (by decide)]; rfl
@[simp] theorem eph_setF (s : State) (b : Bool) : (s.setF b).eph = s.eph := by
  unfold State.eph; rw [State.setF_sr, getLsbD_putBit _ _ _ _ (by decide)]; rfl
@[simp] theorem sumra_setF (s : State) (b : Bool) : (s.setF b).sumra = s.sumra := by
  unfold State.sumra; rw [State.setF_sr, getLsbD_putBit _ _ _ _ (by decide)]; rfl

@[simp] theorem sm_setCy (s : State) (b : Bool) : (s.setCy b).sm = s.sm := by
  unfold State.sm; rw [State.setCy_sr, getLsbD_putBit _ _ _ _ (by decide)]; rfl
@[simp] theorem tee_setCy (s : State) (b : Bool) : (s.setCy b).tee = s.tee := by
  unfold State.tee; rw [State.setCy_sr, getLsbD_putBit _ _ _ _ (by decide)]; rfl
@[simp] theorem iee_setCy (s : State) (b : Bool) : (s.setCy b).iee = s.iee := by
  unfold State.iee; rw [State.setCy_sr, getLsbD_putBit _ _ _ _ (by decide)]; rfl
@[simp] theorem dme_setCy (s : State) (b : Bool) : (s.setCy b).dme = s.dme := by
  unfold State.dme; rw [State.setCy_sr, getLsbD_putBit _ _ _ _ (by decide)]; rfl
@[simp] theorem ime_setCy (s : State) (b : Bool) : (s.setCy b).ime = s.ime := by
  unfold State.ime; rw [State.setCy_sr, getLsbD_putBit _ _ _ _ (by decide)]; rfl
@[simp] theorem lee_setCy (s : State) (b : Bool) : (s.setCy b).lee = s.lee := by
  unfold State.lee; rw [State.setCy_sr, getLsbD_putBit _ _ _ _ (by decide)]; rfl
@[simp] theorem ce_setCy (s : State) (b : Bool) : (s.setCy b).ce = s.ce := by
  unfold State.ce; rw [State.setCy_sr, getLsbD_putBit _ _ _ _ (by decide)]; rfl
@[simp] theorem flag_setCy (s : State) (b : Bool) : (s.setCy b).flag = s.flag := by
  unfold State.flag; rw [State.setCy_sr, getLsbD_putBit _ _ _ _ (by decide)]; rfl
@[simp] theorem cy_setCy (s : State) (b : Bool) : (s.setCy b).cy = b := by
  unfold State.cy; rw [State.setCy_sr, getLsbD_putBit _ _ _ _ (by decide)]; rfl
@[simp] theorem ov_setCy (s : State) (b : Bool) : (s.setCy b).ov = s.ov := by
  unfold State.ov; rw [State.setCy_sr, getLsbD_putBit _ _ _ _ (by decide)]; rfl
@[simp] theorem ove_setCy (s : State) (b : Bool) : (s.setCy b).ove = s.ove := by
  unfold State.ove; rw [State.setCy_sr, getLsbD_putBit _ _ _ _ (by decide)]; rfl
@[simp] theorem eph_setCy (s : State) (b : Bool) : (s.setCy b).eph = s.eph := by
  unfold State.eph; rw [State.setCy_sr, getLsbD_putBit _ _ _ _ (by decide)]; rfl
@[simp] theorem sumra_setCy (s : State) (b : Bool) : (s.setCy b).sumra = s.sumra := by
  unfold State.sumra; rw [State.setCy_sr, getLsbD_putBit _ _ _ _ (by decide)]; rfl

@[simp] theorem sm_setOv (s : State) (b : Bool) : (s.setOv b).sm = s.sm := by
  unfold State.sm; rw [State.setOv_sr, getLsbD_putBit _ _ _ _ (by decide)]; rfl
@[simp] theorem tee_setOv (s : State) (b : Bool) : (s.setOv b).tee = s.tee := by
  unfold State.tee; rw [State.setOv_sr, getLsbD_putBit _ _ _ _ (by decide)]; rfl
@[simp] theorem iee_setOv (s : State) (b : Bool) : (s.setOv b).iee = s.iee := by
  unfold State.iee; rw [State.setOv_sr, getLsbD_putBit _ _ _ _ (by decide)]; rfl
@[simp] theorem dme_setOv (s : State) (b : Bool) : (s.setOv b).dme = s.dme := by
  unfold State.dme; rw [State.setOv_sr, getLsbD_putBit _ _ _ _ (by decide)]; rfl
@[simp] theorem ime_setOv (s : State) (b : Bool) : (s.setOv b).ime = s.ime := by
  unfold State.ime; rw [State.setOv_sr, getLsbD_putBit _ _ _ _ (by decide)]; rfl
@[simp] theorem lee_setOv (s : State) (b : Bool) : (s.setOv b).lee = s.lee := by
  unfold State.lee; rw [State.setOv_sr, getLsbD_putBit _ _ _ _ (by decide)]; rfl
@[simp] theorem ce_setOv (s : State) (b : Bool) : (s.setOv b).ce = s.ce := by
  unfold State.ce; rw [State.setOv_sr, getLsbD_putBit _ _ _ _ (by decide)]; rfl
@[simp] theorem flag_setOv (s : State) (b : Bool) : (s.setOv b).flag = s.flag := by
  unfold State.flag; rw [State.setOv_sr, getLsbD_putBit _ _ _ _ (by decide)]; rfl
@[simp] theorem cy_setOv (s : State) (b : Bool) : (s.setOv b).cy = s.cy := by
  unfold State.cy; rw [State.setOv_sr, getLsbD_putBit _ _ _ _ (by decide)]; rfl
@[simp] theorem ov_setOv (s : State) (b : Bool) : (s.setOv b).ov = b := by
  unfold State.ov; rw [State.setOv_sr, getLsbD_putBit _ _ _ _ (by decide)]; rfl
@[simp] theorem ove_setOv (s : State) (b : Bool) : (s.setOv b).ove = s.ove := by
  unfold State.ove; rw [State.setOv_sr, getLsbD_putBit _ _ _ _ (by decide)]; rfl
@[simp] theorem eph_setOv (s : State) (b : Bool) : (s.setOv b).eph = s.eph := by
  unfold State.eph; rw [State.setOv_sr, getLsbD_putBit _ _ _ _ (by decide)]; rfl
@[simp] theorem sumra_setOv (s : State) (b : Bool) : (s.setOv b).sumra = s.sumra := by
  unfold State.sumra; rw [State.setOv_sr, getLsbD_putBit _ _ _ _ (by decide)]; rfl

@[simp] theorem sm_setReg (s : State) (r : RegNo) (v : Word) : (s.setReg r v).sm = s.sm := by
  unfold State.sm; rw [State.setReg_sr]
@[simp] theorem tee_setReg (s : State) (r : RegNo) (v : Word) : (s.setReg r v).tee = s.tee := by
  unfold State.tee; rw [State.setReg_sr]
@[simp] theorem iee_setReg (s : State) (r : RegNo) (v : Word) : (s.setReg r v).iee = s.iee := by
  unfold State.iee; rw [State.setReg_sr]
@[simp] theorem dme_setReg (s : State) (r : RegNo) (v : Word) : (s.setReg r v).dme = s.dme := by
  unfold State.dme; rw [State.setReg_sr]
@[simp] theorem ime_setReg (s : State) (r : RegNo) (v : Word) : (s.setReg r v).ime = s.ime := by
  unfold State.ime; rw [State.setReg_sr]
@[simp] theorem lee_setReg (s : State) (r : RegNo) (v : Word) : (s.setReg r v).lee = s.lee := by
  unfold State.lee; rw [State.setReg_sr]
@[simp] theorem ce_setReg (s : State) (r : RegNo) (v : Word) : (s.setReg r v).ce = s.ce := by
  unfold State.ce; rw [State.setReg_sr]
@[simp] theorem flag_setReg (s : State) (r : RegNo) (v : Word) : (s.setReg r v).flag = s.flag := by
  unfold State.flag; rw [State.setReg_sr]
@[simp] theorem cy_setReg (s : State) (r : RegNo) (v : Word) : (s.setReg r v).cy = s.cy := by
  unfold State.cy; rw [State.setReg_sr]
@[simp] theorem ov_setReg (s : State) (r : RegNo) (v : Word) : (s.setReg r v).ov = s.ov := by
  unfold State.ov; rw [State.setReg_sr]
@[simp] theorem ove_setReg (s : State) (r : RegNo) (v : Word) : (s.setReg r v).ove = s.ove := by
  unfold State.ove; rw [State.setReg_sr]
@[simp] theorem eph_setReg (s : State) (r : RegNo) (v : Word) : (s.setReg r v).eph = s.eph := by
  unfold State.eph; rw [State.setReg_sr]
@[simp] theorem sumra_setReg (s : State) (r : RegNo) (v : Word) : (s.setReg r v).sumra = s.sumra := by
  unfold State.sumra; rw [State.setReg_sr]

@[simp] theorem sm_setMac (s : State) (v : BitVec 64) : (s.setMac v).sm = s.sm := by
  unfold State.sm; rw [State.setMac_sr]
@[simp] theorem tee_setMac (s : State) (v : BitVec 64) : (s.setMac v).tee = s.tee := by
  unfold State.tee; rw [State.setMac_sr]
@[simp] theorem iee_setMac (s : State) (v : BitVec 64) : (s.setMac v).iee = s.iee := by
  unfold State.iee; rw [State.setMac_sr]
@[simp] theorem dme_setMac (s : State) (v : BitVec 64) : (s.setMac v).dme = s.dme := by
  unfold State.dme; rw [State.setMac_sr]
@[simp] theorem ime_setMac (s : State) (v : BitVec 64) : (s.setMac v).ime = s.ime := by
  unfold State.ime; rw [State.setMac_sr]
@[simp] theorem lee_setMac (s : State) (v : BitVec 64) : (s.setMac v).lee = s.lee := by
  unfold State.lee; rw [State.setMac_sr]
@[simp] theorem ce_setMac (s : State) (v : BitVec 64) : (s.setMac v).ce = s.ce := by
  unfold State.ce; rw [State.setMac_sr]
@[simp] theorem flag_setMac (s : State) (v : BitVec 64) : (s.setMac v).flag = s.flag := by
  unfold State.flag; rw [State.setMac_sr]
@[simp] theorem cy_setMac (s : State) (v : BitVec 64) : (s.setMac v).cy = s.cy := by
  unfold State.cy; rw [State.setMac_sr]
@[simp] theorem ov_setMac (s : State) (v : BitVec 64) : (s.setMac v).ov = s.ov := by
  unfold State.ov; rw [State.setMac_sr]
@[simp] theorem ove_setMac (s : State) (v : BitVec 64) : (s.setMac v).ove = s.ove := by
  unfold State.ove; rw [State.setMac_sr]
@[simp] theorem eph_setMac (s : State) (v : BitVec 64) : (s.setMac v).eph = s.eph := by
  unfold State.eph; rw [State.setMac_sr]
@[simp] theorem sumra_setMac (s : State) (v : BitVec 64) : (s.setMac v).sumra = s.sumra := by
  unfold State.sumra; rw [State.setMac_sr]

@[simp] theorem sm_drawn (s : State) : (s.drawn).sm = s.sm := by
  unfold State.sm; rw [State.drawn_sr]
@[simp] theorem tee_drawn (s : State) : (s.drawn).tee = s.tee := by
  unfold State.tee; rw [State.drawn_sr]
@[simp] theorem iee_drawn (s : State) : (s.drawn).iee = s.iee := by
  unfold State.iee; rw [State.drawn_sr]
@[simp] theorem dme_drawn (s : State) : (s.drawn).dme = s.dme := by
  unfold State.dme; rw [State.drawn_sr]
@[simp] theorem ime_drawn (s : State) : (s.drawn).ime = s.ime := by
  unfold State.ime; rw [State.drawn_sr]
@[simp] theorem lee_drawn (s : State) : (s.drawn).lee = s.lee := by
  unfold State.lee; rw [State.drawn_sr]
@[simp] theorem ce_drawn (s : State) : (s.drawn).ce = s.ce := by
  unfold State.ce; rw [State.drawn_sr]
@[simp] theorem flag_drawn (s : State) : (s.drawn).flag = s.flag := by
  unfold State.flag; rw [State.drawn_sr]
@[simp] theorem cy_drawn (s : State) : (s.drawn).cy = s.cy := by
  unfold State.cy; rw [State.drawn_sr]
@[simp] theorem ov_drawn (s : State) : (s.drawn).ov = s.ov := by
  unfold State.ov; rw [State.drawn_sr]
@[simp] theorem ove_drawn (s : State) : (s.drawn).ove = s.ove := by
  unfold State.ove; rw [State.drawn_sr]
@[simp] theorem eph_drawn (s : State) : (s.drawn).eph = s.eph := by
  unfold State.eph; rw [State.drawn_sr]
@[simp] theorem sumra_drawn (s : State) : (s.drawn).sumra = s.sumra := by
  unfold State.sumra; rw [State.drawn_sr]

@[simp] theorem sm_raise (s : State) (f : Word32) : (s.raise f).sm = s.sm := by
  unfold State.sm; rw [State.raise_sr]
@[simp] theorem tee_raise (s : State) (f : Word32) : (s.raise f).tee = s.tee := by
  unfold State.tee; rw [State.raise_sr]
@[simp] theorem iee_raise (s : State) (f : Word32) : (s.raise f).iee = s.iee := by
  unfold State.iee; rw [State.raise_sr]
@[simp] theorem dme_raise (s : State) (f : Word32) : (s.raise f).dme = s.dme := by
  unfold State.dme; rw [State.raise_sr]
@[simp] theorem ime_raise (s : State) (f : Word32) : (s.raise f).ime = s.ime := by
  unfold State.ime; rw [State.raise_sr]
@[simp] theorem lee_raise (s : State) (f : Word32) : (s.raise f).lee = s.lee := by
  unfold State.lee; rw [State.raise_sr]
@[simp] theorem ce_raise (s : State) (f : Word32) : (s.raise f).ce = s.ce := by
  unfold State.ce; rw [State.raise_sr]
@[simp] theorem flag_raise (s : State) (f : Word32) : (s.raise f).flag = s.flag := by
  unfold State.flag; rw [State.raise_sr]
@[simp] theorem cy_raise (s : State) (f : Word32) : (s.raise f).cy = s.cy := by
  unfold State.cy; rw [State.raise_sr]
@[simp] theorem ov_raise (s : State) (f : Word32) : (s.raise f).ov = s.ov := by
  unfold State.ov; rw [State.raise_sr]
@[simp] theorem ove_raise (s : State) (f : Word32) : (s.raise f).ove = s.ove := by
  unfold State.ove; rw [State.raise_sr]
@[simp] theorem eph_raise (s : State) (f : Word32) : (s.raise f).eph = s.eph := by
  unfold State.eph; rw [State.raise_sr]
@[simp] theorem sumra_raise (s : State) (f : Word32) : (s.raise f).sumra = s.sumra := by
  unfold State.sumra; rw [State.raise_sr]

@[simp] theorem sm_recordCauses (s : State) (c : Word32) : (s.recordCauses c).sm = s.sm := by
  unfold State.sm; rw [State.recordCauses_sr]
@[simp] theorem tee_recordCauses (s : State) (c : Word32) : (s.recordCauses c).tee = s.tee := by
  unfold State.tee; rw [State.recordCauses_sr]
@[simp] theorem iee_recordCauses (s : State) (c : Word32) : (s.recordCauses c).iee = s.iee := by
  unfold State.iee; rw [State.recordCauses_sr]
@[simp] theorem dme_recordCauses (s : State) (c : Word32) : (s.recordCauses c).dme = s.dme := by
  unfold State.dme; rw [State.recordCauses_sr]
@[simp] theorem ime_recordCauses (s : State) (c : Word32) : (s.recordCauses c).ime = s.ime := by
  unfold State.ime; rw [State.recordCauses_sr]
@[simp] theorem lee_recordCauses (s : State) (c : Word32) : (s.recordCauses c).lee = s.lee := by
  unfold State.lee; rw [State.recordCauses_sr]
@[simp] theorem ce_recordCauses (s : State) (c : Word32) : (s.recordCauses c).ce = s.ce := by
  unfold State.ce; rw [State.recordCauses_sr]
@[simp] theorem flag_recordCauses (s : State) (c : Word32) : (s.recordCauses c).flag = s.flag := by
  unfold State.flag; rw [State.recordCauses_sr]
@[simp] theorem cy_recordCauses (s : State) (c : Word32) : (s.recordCauses c).cy = s.cy := by
  unfold State.cy; rw [State.recordCauses_sr]
@[simp] theorem ov_recordCauses (s : State) (c : Word32) : (s.recordCauses c).ov = s.ov := by
  unfold State.ov; rw [State.recordCauses_sr]
@[simp] theorem ove_recordCauses (s : State) (c : Word32) : (s.recordCauses c).ove = s.ove := by
  unfold State.ove; rw [State.recordCauses_sr]
@[simp] theorem eph_recordCauses (s : State) (c : Word32) : (s.recordCauses c).eph = s.eph := by
  unfold State.eph; rw [State.recordCauses_sr]
@[simp] theorem sumra_recordCauses (s : State) (c : Word32) : (s.recordCauses c).sumra = s.sumra := by
  unfold State.sumra; rw [State.recordCauses_sr]

@[simp] theorem sm_executed (s : State) : (executed s).sm = s.sm := by
  unfold State.sm; rw [executed_sr]
@[simp] theorem tee_executed (s : State) : (executed s).tee = s.tee := by
  unfold State.tee; rw [executed_sr]
@[simp] theorem iee_executed (s : State) : (executed s).iee = s.iee := by
  unfold State.iee; rw [executed_sr]
@[simp] theorem dme_executed (s : State) : (executed s).dme = s.dme := by
  unfold State.dme; rw [executed_sr]
@[simp] theorem ime_executed (s : State) : (executed s).ime = s.ime := by
  unfold State.ime; rw [executed_sr]
@[simp] theorem lee_executed (s : State) : (executed s).lee = s.lee := by
  unfold State.lee; rw [executed_sr]
@[simp] theorem ce_executed (s : State) : (executed s).ce = s.ce := by
  unfold State.ce; rw [executed_sr]
@[simp] theorem flag_executed (s : State) : (executed s).flag = s.flag := by
  unfold State.flag; rw [executed_sr]
@[simp] theorem cy_executed (s : State) : (executed s).cy = s.cy := by
  unfold State.cy; rw [executed_sr]
@[simp] theorem ov_executed (s : State) : (executed s).ov = s.ov := by
  unfold State.ov; rw [executed_sr]
@[simp] theorem ove_executed (s : State) : (executed s).ove = s.ove := by
  unfold State.ove; rw [executed_sr]
@[simp] theorem eph_executed (s : State) : (executed s).eph = s.eph := by
  unfold State.eph; rw [executed_sr]
@[simp] theorem sumra_executed (s : State) : (executed s).sumra = s.sumra := by
  unfold State.sumra; rw [executed_sr]

@[simp] theorem sm_advance (s : State) : (advance s).sm = s.sm := by
  unfold State.sm; rw [advance_sr]
@[simp] theorem tee_advance (s : State) : (advance s).tee = s.tee := by
  unfold State.tee; rw [advance_sr]
@[simp] theorem iee_advance (s : State) : (advance s).iee = s.iee := by
  unfold State.iee; rw [advance_sr]
@[simp] theorem dme_advance (s : State) : (advance s).dme = s.dme := by
  unfold State.dme; rw [advance_sr]
@[simp] theorem ime_advance (s : State) : (advance s).ime = s.ime := by
  unfold State.ime; rw [advance_sr]
@[simp] theorem lee_advance (s : State) : (advance s).lee = s.lee := by
  unfold State.lee; rw [advance_sr]
@[simp] theorem ce_advance (s : State) : (advance s).ce = s.ce := by
  unfold State.ce; rw [advance_sr]
@[simp] theorem flag_advance (s : State) : (advance s).flag = s.flag := by
  unfold State.flag; rw [advance_sr]
@[simp] theorem cy_advance (s : State) : (advance s).cy = s.cy := by
  unfold State.cy; rw [advance_sr]
@[simp] theorem ov_advance (s : State) : (advance s).ov = s.ov := by
  unfold State.ov; rw [advance_sr]
@[simp] theorem ove_advance (s : State) : (advance s).ove = s.ove := by
  unfold State.ove; rw [advance_sr]
@[simp] theorem eph_advance (s : State) : (advance s).eph = s.eph := by
  unfold State.eph; rw [advance_sr]
@[simp] theorem sumra_advance (s : State) : (advance s).sumra = s.sumra := by
  unfold State.sumra; rw [advance_sr]

/-- Whether a range exception is due depends on SR[OVE], AECR and the configuration alone. -/
theorem rangeDue_congr {u s : State} (c : Word32) (ov : Bool) (h1 : u.ove = s.ove) (h2 : u.cfg = s.cfg)
    (h3 : u.aecr = s.aecr) : rangeDue u c ov = rangeDue s c ov := by
  unfold rangeDue enabledCauses; rw [h1, h2, h3]

theorem finishArith_done {c : Word32} {ov : Bool} {u : State} (h : rangeDue u c ov = false) :
    finishArith c ov u = .next (advance u) := by
  unfold finishArith; rw [h]; rfl

theorem finishArith_trap {c : Word32} {ov : Bool} {u : State} (h : rangeDue u c ov = true) :
    finishArith c ov u = .next (enter .range u.pc none (executed (u.recordCauses c))) := by
  unfold finishArith; rw [h]; rfl

/-- Without enabled causes no range exception is due. -/
theorem rangeDue_none (s : State) : rangeDue s 0 false = false := by
  unfold rangeDue enabledCauses; simp

theorem finishFp_done {f : Word32} {u : State} (h : u.fpee = false ∨ f = 0) : finishFp f u = .next (advance (u.raise f)) := by
  unfold finishFp
  rcases h with h | h <;> rw [h] <;> simp

theorem finishFp_trap {f : Word32} {u : State} (h : u.fpee = true) (h2 : f ≠ 0) :
    finishFp f u = .next (enter .floatingPoint (u.pc + 4) none (executed (u.raise f))) := by
  unfold finishFp; rw [h, if_pos (by simpa using h2)]

end Sys2Proof.Machine
end

