-- ==== Sys2Proof/Laws/Memory.lean ====
section
/-! SUPPORT. Sparse data and physical memory: every write keeps the canonical form, a read gives what was written there
last, and a write leaves every other place alone. -/

namespace Sys2Proof.Machine

variable {α : Type} [DecidableEq α] {dflt : α}

theorem sparseAbove_none {lo : Option Nat} {m : List (Nat × α)} (h : sparseAbove dflt lo m = true) :
    sparseAbove dflt none m = true := by
  cases m with
  | nil => rfl
  | cons p m => simp_all [sparseAbove]

theorem sparseAbove_lower {i j : Nat} {m : List (Nat × α)} (h : sparseAbove dflt (some j) m = true) (hij : i ≤ j) :
    sparseAbove dflt (some i) m = true := by
  cases m with
  | nil => rfl
  | cons p m => simp_all [sparseAbove]; omega

theorem sparseGet_below {j k : Nat} {m : List (Nat × α)} (h : sparseAbove dflt (some j) m = true) (hk : k ≤ j) :
    sparseGet dflt m k = dflt := by
  cases m with
  | nil => rfl
  | cons p m =>
    simp only [sparseAbove, Bool.and_eq_true, decide_eq_true_eq] at h
    have : k < p.1 := by omega
    simp [sparseGet, this]
    omega

theorem sparseSet_above (m : List (Nat × α)) (lo : Option Nat) (k : Nat) (v : α) (h : sparseAbove dflt lo m = true)
    (hk : ∀ l, lo = some l → l < k) : sparseAbove dflt lo (sparseSet dflt m k v) = true := by
  induction m generalizing lo with
  | nil =>
    by_cases hv : v = dflt
    · simp [sparseSet, hv, sparseAbove]
    · cases lo <;> simp_all [sparseSet, sparseAbove]
  | cons p m ih =>
    obtain ⟨j, w⟩ := p
    simp only [sparseAbove, Bool.and_eq_true, decide_eq_true_eq] at h
    obtain ⟨⟨hlo, hw⟩, hm⟩ := h
    unfold sparseSet
    split
    · rename_i hjk
      split
      · cases lo with
        | none => exact sparseAbove_none hm
        | some l => exact sparseAbove_lower hm (by have := hk l rfl; omega)
      · rename_i hv
        subst hjk
        simp only [sparseAbove, Bool.and_eq_true, decide_eq_true_eq]
        exact ⟨⟨hlo, hv⟩, hm⟩
    · split
      · rename_i hjk hkj
        split
        · simp only [sparseAbove, Bool.and_eq_true, decide_eq_true_eq]; exact ⟨⟨hlo, hw⟩, hm⟩
        · rename_i hv
          simp only [sparseAbove, Bool.and_eq_true, decide_eq_true_eq]
          refine ⟨⟨?_, hv⟩, ⟨hkj, hw⟩, hm⟩
          cases lo with
          | none => trivial
          | some l => simpa using hk l rfl
      · rename_i hjk hkj
        simp only [sparseAbove, Bool.and_eq_true, decide_eq_true_eq]
        exact ⟨⟨hlo, hw⟩, ih (some j) hm (by intro l hl; cases hl; omega)⟩

/-- A write keeps the canonical form. -/
theorem sparseSet_wf (m : List (Nat × α)) (k : Nat) (v : α) (h : sparseWf dflt m = true) :
    sparseWf dflt (sparseSet dflt m k v) = true :=
  sparseSet_above m none k v h (by simp)

theorem sparseGet_set_above (m : List (Nat × α)) (lo : Option Nat) (k i : Nat) (v : α)
    (h : sparseAbove dflt lo m = true) :
    sparseGet dflt (sparseSet dflt m k v) i = if i = k then v else sparseGet dflt m i := by
  induction m generalizing lo with
  | nil =>
    by_cases hv : v = dflt <;> by_cases hi : i = k <;> simp_all [sparseSet, sparseGet]
    omega
  | cons p m ih =>
    obtain ⟨j, w⟩ := p
    simp only [sparseAbove, Bool.and_eq_true, decide_eq_true_eq] at h
    obtain ⟨_, hm⟩ := h
    unfold sparseSet
    split
    · rename_i hjk
      subst hjk
      split
      · rename_i hv
        by_cases hi : i = j
        · simp [hi, hv, sparseGet_below hm (Nat.le_refl j)]
        · by_cases hlt : i < j
          · simp [hi, sparseGet, hlt, Ne.symm hi, sparseGet_below hm (Nat.le_of_lt hlt)]
          · simp [hi, sparseGet, hlt, Ne.symm hi]
      · by_cases hi : i = j
        · simp [hi, sparseGet]
        · simp [hi, sparseGet, Ne.symm hi]
    · split
      · rename_i hjk hkj
        split
        · rename_i hv
          by_cases hi : i = k
          · subst hi; simp [sparseGet, hkj, hv]; omega
          · simp [hi]
        · by_cases hi : i = k
          · simp [hi, sparseGet]
          · by_cases hlt : i < k
            · have h1 : i < j := by omega
              have h2 : ¬ j = i := by omega
              have h3 : ¬ k = i := by omega
              simp [hi, sparseGet, hlt, h1, h2, h3]
            · simp [hi, sparseGet, hlt, Ne.symm hi]
      · rename_i hjk hkj
        have := ih (some j) hm
        by_cases hi : i = k
        · subst hi
          have h2 : ¬ j = i := hjk
          simp [sparseGet, h2, hkj, this]
        · by_cases hji : j = i
          · simp [sparseGet, hji, hi]
          · by_cases hlt : i < j
            · simp [sparseGet, hji, hlt, hi]
            · simp [sparseGet, hji, hlt, hi, this]

/-- Reading after one write: the written value at its key, the old one elsewhere. -/
theorem sparseGet_set (m : List (Nat × α)) (k i : Nat) (v : α) (h : sparseWf dflt m = true) :
    sparseGet dflt (sparseSet dflt m k v) i = if i = k then v else sparseGet dflt m i :=
  sparseGet_set_above m none k i v h

theorem writeByte_wf (m : List Host.Cell) (a : Nat) (v : Byte) (h : Memory.wf m = true) :
    Memory.wf (writeByte m a v) = true := sparseSet_wf m a v h

theorem readByte_writeByte (m : List Host.Cell) (a b : Nat) (v : Byte) (h : Memory.wf m = true) :
    readByte (writeByte m a v) b = if b = a then v else readByte m b := sparseGet_set m a b v h

theorem writeBytes_wf (m : List Host.Cell) (as : List Nat) (bs : List Byte) (h : Memory.wf m = true) :
    Memory.wf (writeBytes m as bs) = true := by
  induction as generalizing m bs with
  | nil => simpa [writeBytes] using h
  | cons a as ih =>
    cases bs with
    | nil => simpa [writeBytes] using h
    | cons b bs => exact ih _ _ (writeByte_wf m a b h)

/-- A write leaves every byte outside its addresses alone. -/
theorem readByte_writeBytes_of_notMem (m : List Host.Cell) (as : List Nat) (bs : List Byte) (i : Nat)
    (h : Memory.wf m = true) (hi : i ∉ as) : readByte (writeBytes m as bs) i = readByte m i := by
  induction as generalizing m bs with
  | nil => simp [writeBytes]
  | cons a as ih =>
    cases bs with
    | nil => simp [writeBytes]
    | cons b bs =>
      simp only [List.mem_cons, not_or] at hi
      rw [writeBytes, ih _ _ (writeByte_wf m a b h) hi.2, readByte_writeByte m a i b h, if_neg hi.1]

/-- A write to different addresses puts each byte at its own. -/
theorem readByte_writeBytes_getElem (m : List Host.Cell) (as : List Nat) (bs : List Byte) (j p : Nat) (b : Byte)
    (h : Memory.wf m = true) (hn : as.Nodup) (hp : as[j]? = some p) (hb : bs[j]? = some b) :
    readByte (writeBytes m as bs) p = b := by
  induction as generalizing m bs j with
  | nil => simp at hp
  | cons a as ih =>
    cases bs with
    | nil => simp at hb
    | cons c bs =>
      rw [List.nodup_cons] at hn
      cases j with
      | zero =>
        simp only [List.getElem?_cons_zero, Option.some.injEq] at hp hb
        subst hp hb
        rw [writeBytes, readByte_writeBytes_of_notMem _ _ _ _ (writeByte_wf m a c h) hn.1,
          readByte_writeByte m a a c h, if_pos rfl]
      | succ j =>
        exact ih _ _ _ (writeByte_wf m a c h) hn.2 (by simpa using hp) (by simpa using hb)

/-- Writing a page table entry keeps the canonical form. -/
theorem writePte_wf (m : List Host.Cell) (a : Nat) (v : Word32) (h : Memory.wf m = true) :
    Memory.wf (writePte m a v) = true :=
  writeByte_wf _ _ _ (writeByte_wf _ _ _ (writeByte_wf _ _ _ (writeByte_wf _ _ _ h)))

/-- Memory after reset is in canonical form. -/
theorem reset_mem_wf : Memory.wf State.reset.mem = true := rfl

end Sys2Proof.Machine
end

