-- ==== Sys2Proof/Laws/Access.lean ====
section
/-! SUPPORT. What address translation and the checks before an access can do to the state. -/

namespace Sys2Proof.Machine

theorem MmuKept.rfl' (h : Bool) (c : BitVec 4) (m : MmuRegs) : MmuKept h c m m :=
  ⟨rfl, rfl, fun _ => .inl ⟨rfl, .inl rfl⟩, fun _ => .inl ⟨rfl, .inl rfl⟩⟩

theorem TrMarked.trans {a b c : Word32} (h1 : TrMarked a b) (h2 : TrMarked b c) : TrMarked a c := by
  have e : ∀ x y : Word32, (a ||| x) ||| y = a ||| (x ||| y) := fun x y => BitVec.or_assoc a x y
  rcases h1 with rfl | rfl | rfl <;> rcases h2 with rfl | rfl | rfl <;> simp [TrMarked, e]

/-- One entry: kept twice, or installed by one of the two. -/
theorem kept_or_trans {P Q : Prop} {a b c x y z : Word32} (h1 : (b = a ∧ TrMarked x y) ∨ P) (h2 : (c = b ∧ TrMarked y z) ∨ Q)
    (hp : c = b → P → Q) : (c = a ∧ TrMarked x z) ∨ Q := by
  rcases h2 with ⟨rfl, h2⟩ | h2
  · rcases h1 with ⟨rfl, h1⟩ | h1
    · exact .inl ⟨rfl, h1.trans h2⟩
    · exact .inr (hp rfl h1)
  · exact .inr h2

theorem MmuKept.trans {h : Bool} {c : BitVec 4} {m n o : MmuRegs} (h1 : MmuKept h c m n) (h2 : MmuKept h c n o) :
    MmuKept h c m o :=
  ⟨h2.cr.trans h1.cr, h2.pr.trans h1.pr, fun i => kept_or_trans (h1.tlb i) (h2.tlb i) fun e q => by rw [e]; exact q,
    fun i => kept_or_trans (h1.atb i) (h2.atb i) fun e q => by rw [e]; exact q⟩

theorem markAccessed_marked (k : AccKind) (tr : Word32) : TrMarked tr (markAccessed k tr) := by
  cases k <;> simp [markAccessed, TrMarked]

/-- Marking an entry keeps the rest. -/
theorem setTranslate_kept (h : Bool) (c : BitVec 4) (m : MmuRegs) (e : XlatSlot) (k : AccKind) :
    MmuKept h c m (m.setTranslate e (markAccessed k (m.translateOf e))) := by
  cases e with
  | tlb i =>
    refine ⟨rfl, rfl, fun j => .inl ⟨rfl, ?_⟩, fun _ => .inl ⟨rfl, .inl rfl⟩⟩
    by_cases hj : j = i
    · subst hj; simpa [MmuRegs.setTranslate, MmuRegs.translateOf] using markAccessed_marked k _
    · exact .inl (by simp [MmuRegs.setTranslate, Bank.get_set_ne _ _ _ _ hj])
  | atb i =>
    refine ⟨rfl, rfl, fun _ => .inl ⟨rfl, .inl rfl⟩, fun j => .inl ⟨rfl, ?_⟩⟩
    by_cases hj : j = i
    · subst hj; simpa [MmuRegs.setTranslate, MmuRegs.translateOf] using markAccessed_marked k _
    · exact .inl (by simp [MmuRegs.setTranslate, Bank.get_set_ne _ _ _ _ hj])

/-- What translation for an access of kind `k` changes at most: the MMU's entries, page table entries in memory with a
reservation of their words, and the count of free values. -/
structure XlatFrame (k : AccKind) (s s' : State) : Prop where
  /-- Nothing but the MMUs, memory, the reservation and the count of free values. -/
  eq : s' = { s with dmmu := s'.dmmu, immu := s'.immu, mem := s'.mem, resv := s'.resv, free := s'.free }
  /-- The reservation is kept or lost. -/
  resv : s'.resv = s.resv ∨ s'.resv = none
  /-- Under software reload nothing but the MMUs. -/
  soft : (mmuConfig s.cfg k).htr = false → s' = { s with dmmu := s'.dmmu, immu := s'.immu }
  /-- A data access leaves the instruction MMU. -/
  immu : k ≠ .fetch → s'.immu = s.immu
  /-- The control registers stay. -/
  cr : s'.dmmu.cr = s.dmmu.cr ∧ s'.immu.cr = s.immu.cr
  /-- The protection registers stay. -/
  pr : s'.dmmu.pr = s.dmmu.pr ∧ s'.immu.pr = s.immu.pr
  /-- The canonical form of memory stays. -/
  wf : Memory.wf s.mem = true → Memory.wf s'.mem = true
  /-- A data access changes of the data MMU only accessed and dirty bits, and with a hardware walk the entries it
  installs. -/
  kept : k ≠ .fetch → MmuKept s.cfg.dmmu.htr s.cid s.dmmu s'.dmmu

theorem XlatFrame.rfl' (k : AccKind) (s : State) : XlatFrame k s s :=
  ⟨rfl, .inl rfl, fun _ => rfl, fun _ => rfl, ⟨rfl, rfl⟩, ⟨rfl, rfl⟩, id, fun _ => MmuKept.rfl' _ _ _⟩

theorem XlatFrame.cfg {k : AccKind} {s s' : State} (h : XlatFrame k s s') : s'.cfg = s.cfg := by rw [h.eq]

theorem XlatFrame.trans {k : AccKind} {s t u : State} (h1 : XlatFrame k s t) (h2 : XlatFrame k t u) : XlatFrame k s u := by
  refine ⟨?_, ?_, ?_, fun h => (h2.immu h).trans (h1.immu h), ⟨h2.cr.1.trans h1.cr.1, h2.cr.2.trans h1.cr.2⟩,
    ⟨h2.pr.1.trans h1.pr.1, h2.pr.2.trans h1.pr.2⟩, fun h => h2.wf (h1.wf h), fun h => (h1.kept h).trans ?_⟩
  · rw [h2.eq, h1.eq]
  · rcases h2.resv with h | h
    · rw [h]; exact h1.resv
    · exact .inr h
  · intro h
    have h' : (mmuConfig t.cfg k).htr = false := by rw [h1.cfg]; exact h
    rw [h2.soft h', h1.soft h]
  · have e : t.cid = s.cid := by rw [h1.eq]; rfl
    have := h2.kept h
    rwa [h1.cfg, e] at this

/-- Replacing the MMU registers, control and protection kept. -/
theorem XlatFrame.setMmu (k : AccKind) (s : State) (m : MmuRegs) (hc : m.cr = (s.mmu k).cr) (hp : m.pr = (s.mmu k).pr)
    (hk : MmuKept (mmuConfig s.cfg k).htr s.cid (s.mmu k) m) : XlatFrame k s (s.setMmu k m) := by
  unfold State.setMmu State.mmu at *
  cases k <;> simp only at *
  · split <;> rename_i h
    · rw [if_pos h] at hc hp
      exact ⟨rfl, .inl rfl, fun _ => rfl, fun h => absurd rfl h, ⟨hc, rfl⟩, ⟨hp, rfl⟩, id, fun h => absurd rfl h⟩
    · rw [if_neg h] at hc hp
      exact ⟨rfl, .inl rfl, fun _ => rfl, fun h => absurd rfl h, ⟨rfl, hc⟩, ⟨rfl, hp⟩, id, fun h => absurd rfl h⟩
  · exact ⟨rfl, .inl rfl, fun _ => rfl, fun _ => rfl, ⟨hc, rfl⟩, ⟨hp, rfl⟩, id, fun _ => hk⟩
  · exact ⟨rfl, .inl rfl, fun _ => rfl, fun _ => rfl, ⟨hc, rfl⟩, ⟨hp, rfl⟩, id, fun _ => hk⟩

theorem setTranslate_cr (m : MmuRegs) (e : XlatSlot) (v : Word32) :
    (m.setTranslate e v).cr = m.cr ∧ (m.setTranslate e v).pr = m.pr := by
  cases e <;> exact ⟨rfl, rfl⟩

theorem keepResv_or (resv : Option Nat) (pas : List Nat) : keepResv resv pas = resv ∨ keepResv resv pas = none := by
  unfold keepResv
  split
  · exact .inr rfl
  · exact .inl rfl

theorem writeBackPte_frame (s : State) (k : AccKind) (ea : Word) : XlatFrame k s (writeBackPte s k ea) := by
  unfold writeBackPte
  split
  · rename_i hh
    split
    · split
      · exact XlatFrame.rfl' k s
      · refine ⟨rfl, keepResv_or _ _, ?_, fun _ => rfl, ⟨rfl, rfl⟩, ⟨rfl, rfl⟩, fun h => writePte_wf _ _ _ h,
          fun _ => MmuKept.rfl' _ _ _⟩
        intro h; simp [h] at hh
    · exact XlatFrame.rfl' k s
  · exact XlatFrame.rfl' k s

theorem set_tlb_kept {h : Bool} (hh : h = true) {c : BitVec 4} {m : MmuRegs} {i : BitVec 9} {mr tr : Word32}
    {v : Bank (Option (BitVec 14)) 9} {p : Bank (Option (BitVec 22)) 9} (h0 : mr.getLsbD 0 = true) (hc : mr.extractLsb' 2 4 = c) :
    MmuKept h c m { m with tlbm := m.tlbm.set i mr, tlbt := m.tlbt.set i tr, tlbVpn := v, tlbPpn := p } := by
  refine ⟨rfl, rfl, fun j => ?_, fun _ => .inl ⟨rfl, .inl rfl⟩⟩
  by_cases hj : j = i
  · subst hj; exact .inr ⟨hh, by simpa using h0, by simpa using hc⟩
  · exact .inl ⟨Bank.get_set_ne _ _ _ _ hj, .inl (Bank.get_set_ne _ _ _ _ hj)⟩

theorem set_atb_kept {h : Bool} (hh : h = true) {c : BitVec 4} {m : MmuRegs} {i : BitVec 2} {mr tr : Word32}
    {v : Bank (Option (BitVec 14)) 2} (h0 : mr.getLsbD 0 = true) (hc : mr.extractLsb' 1 4 = c) :
    MmuKept h c m { m with atbm := m.atbm.set i mr, atbt := m.atbt.set i tr, atbVpn := v } := by
  refine ⟨rfl, rfl, fun _ => .inl ⟨rfl, .inl rfl⟩, fun j => ?_⟩
  by_cases hj : j = i
  · subst hj; exact .inr ⟨hh, by simpa using h0, by simpa using hc⟩
  · exact .inl ⟨Bank.get_set_ne _ _ _ _ hj, .inl (Bank.get_set_ne _ _ _ _ hj)⟩

/-- The context field of the match register a walk installs in the TLB. -/
theorem mr_cid (v old : Word32) (c : BitVec 4) (b : Prop) [Decidable b] :
    ((v &&& 0xFFFFE000) ||| (old &&& 0xC0) ||| (c.setWidth 32 <<< 2) ||| (if b then 2 else 0) ||| 1).extractLsb' 2 4 = c := by
  apply BitVec.eq_of_getLsbD_eq
  intro j hj
  split <;> interval_cases j <;> simp

/-- The context field of the match register a walk installs in the ATB. -/
theorem mr_atb_cid (v : Word32) (c : BitVec 4) :
    ((v &&& 0xFFFFFC00) ||| 0x20 ||| (c.setWidth 32 <<< 1) ||| 1).extractLsb' 1 4 = c := by
  apply BitVec.eq_of_getLsbD_eq
  intro j hj
  interval_cases j <;> simp

/-- Installing an entry draws a free value, which only a hardware walk does. -/
theorem installEntry_frame (s : State) (k : AccKind) (ea : Word) (p : Word32) (level : Nat)
    (hh : (mmuConfig s.cfg k).htr = true) : XlatFrame k s (installEntry s k ea p level).2 := by
  have h1 : XlatFrame k s s.drawn :=
    ⟨rfl, .inl rfl, fun h => by simp [h] at hh, fun _ => rfl, ⟨rfl, rfl⟩, ⟨rfl, rfl⟩, id, fun _ => MmuKept.rfl' _ _ _⟩
  refine h1.trans ?_
  unfold installEntry
  refine XlatFrame.setMmu k s.drawn _ ?_ ?_ ?_
  · split <;> rfl
  · split <;> rfl
  · split
    · exact set_tlb_kept hh (by simp) (mr_cid _ _ _ _)
    · exact set_atb_kept hh (by simp) (mr_atb_cid _ _)

/-- Under software reload the physical address is what the registers form (R266). -/
theorem entryPa_software (s : State) (k : AccKind) (ea : Word) (slot : XlatSlot) (h : (mmuConfig s.cfg k).htr = false) :
    entryPa s k ea slot = formPa s.cfg slot ((s.mmu k).matchOf slot) ((s.mmu k).translateOf slot) ea := by
  cases slot <;> simp [entryPa, heldPpn, h]

@[simp] theorem State.mmu_setMmu (s : State) (k : AccKind) (m : MmuRegs) : (s.setMmu k m).mmu k = m := by
  cases k <;> simp [State.setMmu, State.mmu]
  split <;> simp_all

/-- A walked entry holds bits 45 to 32 of the address it was walked for, so it hits no address that differs there (R272). -/
theorem installEntry_highVpn (s : State) (k : AccKind) (ea : Word) (p : Word32) (level : Nat) :
    ((installEntry s k ea p level).2.mmu k).highVpn (installEntry s k ea p level).1 = ea.extractLsb' 32 14 := by
  unfold installEntry
  simp only [State.mmu_setMmu]
  cases victim s k ea level <;> simp [MmuRegs.highVpn]

/-- What an answer that carries a state says about it. -/
def AccRes.Frame {β : Type} (k : AccKind) (s : State) (r : AccRes β) : Prop :=
  (∀ v s', r = .ok v s' → XlatFrame k s s') ∧ (∀ e s', r = .exc e s' → XlatFrame k s s') ∧ ∀ x, r ≠ .refuse x

theorem useEntry_frame (s : State) (k : AccKind) (ea : Word) (e : XlatSlot) : (useEntry s k ea e).Frame k s := by
  unfold useEntry
  simp only
  split
  · refine ⟨?_, by simp, by simp⟩
    intro v s' h
    simp only [AccRes.ok.injEq] at h
    rw [← h.2]
    exact (XlatFrame.setMmu k s _ (setTranslate_cr _ _ _).1 (setTranslate_cr _ _ _).2 (setTranslate_kept _ _ _ _ _)).trans
      (writeBackPte_frame _ _ _)
  · refine ⟨by simp, ?_, by simp⟩
    intro x s' h
    simp only [AccRes.exc.injEq] at h
    rw [← h.2]; exact XlatFrame.rfl' k s

theorem AccRes.Frame.of_trans {β : Type} {k : AccKind} {s t : State} {r : AccRes β} (h : XlatFrame k s t) (hr : r.Frame k t) :
    r.Frame k s :=
  ⟨fun v s' e => h.trans (hr.1 v s' e), fun x s' e => h.trans (hr.2.1 x s' e), hr.2.2⟩

theorem AccRes.frame_exc {β : Type} (k : AccKind) (s : State) (e : Exc) : (AccRes.exc (α := β) e s).Frame k s := by
  refine ⟨by simp, ?_, by simp⟩
  intro x s' h
  simp only [AccRes.exc.injEq] at h
  rw [← h.2]; exact XlatFrame.rfl' k s

theorem AccRes.frame_ok {β : Type} (k : AccKind) (s : State) (v : β) : (AccRes.ok v s).Frame k s := by
  refine ⟨?_, by simp, by simp⟩
  intro x s' h
  simp only [AccRes.ok.injEq] at h
  rw [← h.2]; exact XlatFrame.rfl' k s

/-- Translation: whatever it answers, the frame holds. -/
theorem physical_frame (s : State) (k : AccKind) (ea : Word) : (physical s k ea).Frame k s := by
  unfold physical
  split
  · unfold translate
    split
    · exact useEntry_frame s k ea _
    · split
      · rename_i hh
        split
        · exact AccRes.Frame.of_trans (installEntry_frame s k ea _ _ hh) (useEntry_frame _ k ea _)
        · exact AccRes.frame_exc k s _
      · exact AccRes.frame_exc k s _
  · exact AccRes.frame_ok k s _

theorem wholePas_frame (s : State) (k : AccKind) (ea : Word) (n : Nat) : (wholePas k ea n s).Frame k s := by
  have h := physical_frame s k ea
  unfold wholePas
  split
  · rename_i e t he
    exact AccRes.Frame.of_trans (h.2.1 _ _ he) (AccRes.frame_exc k t e)
  · rename_i r he
    exact absurd he (h.2.2 r)
  · rename_i pa t he
    split
    · exact AccRes.Frame.of_trans (h.1 _ _ he) (AccRes.frame_ok k t _)
    · exact AccRes.Frame.of_trans (h.1 _ _ he) (AccRes.frame_exc k t _)

theorem bytePas_frame (k : AccKind) (as : List Word) (s : State) : (bytePas k as s).Frame k s := by
  induction as generalizing s with
  | nil => exact AccRes.frame_ok k s _
  | cons a as ih =>
    have h := physical_frame s k a
    unfold bytePas
    split
    · rename_i e t he
      exact AccRes.Frame.of_trans (h.2.1 _ _ he) (AccRes.frame_exc k t e)
    · rename_i r he
      exact absurd he (h.2.2 r)
    · rename_i pa t he
      have hf := h.1 _ _ he
      split
      · have h2 := ih t
        split
        · rename_i pas u hu
          exact AccRes.Frame.of_trans (hf.trans (h2.1 _ _ hu)) (AccRes.frame_ok k u _)
        · rename_i e u hu
          exact AccRes.Frame.of_trans (hf.trans (h2.2.1 _ _ hu)) (AccRes.frame_exc k u e)
        · rename_i r hu
          exact absurd hu (h2.2.2 r)
      · exact AccRes.Frame.of_trans hf (AccRes.frame_exc k t _)

theorem AccRes.undone_frame {β : Type} {k : AccKind} {s : State} {r : AccRes β} (h : r.Frame k s) :
    (r.undone s).Frame k s := by
  cases r with
  | ok v t => exact h
  | exc e t => exact AccRes.frame_exc k s e
  | refuse x => exact absurd rfl (h.2.2 x)

@[simp] theorem AccRes.undone_ok {β : Type} {s t : State} {r : AccRes β} {v : β} : r.undone s = .ok v t ↔ r = .ok v t := by
  cases r <;> simp [AccRes.undone]

theorem AccRes.undone_exc {β : Type} {s t : State} {r : AccRes β} {e : Exc} (h : r.undone s = .exc e t) :
    t = s ∧ ∃ u, r = .exc e u := by
  cases r with
  | ok v u => cases h
  | exc x u => simp only [AccRes.undone, AccRes.exc.injEq] at h; exact ⟨h.2.symm, u, by rw [h.1]⟩
  | refuse x => cases h

/-- The checks of R215: whatever they answer, the frame holds. -/
theorem accessPas_frame (k : AccKind) (ea : Word) (n : Nat) (s : State) : (accessPas k ea n s).Frame k s := by
  unfold accessPas
  split
  · exact AccRes.undone_frame (wholePas_frame s k ea n)
  · split
    · exact AccRes.undone_frame (bytePas_frame k _ s)
    · exact AccRes.frame_exc k s _

/-- Checks that raise an exception leave the state as it was (R215, D36). -/
theorem accessPas_exc {k : AccKind} {ea : Word} {n : Nat} {s s' : State} {e : Exc} (h : accessPas k ea n s = .exc e s') :
    s' = s := by
  unfold accessPas at h
  split at h
  · exact (AccRes.undone_exc h).1
  · split at h
    · exact (AccRes.undone_exc h).1
    · simp only [AccRes.exc.injEq] at h; exact h.2.symm

/-- A data access that succeeds leaves everything but the data MMU, page table entries, the reservation and the count of
free values, and under software reload everything but the data MMU. -/
theorem accessPas_onlyMmu {k : AccKind} {ea : Word} {n : Nat} {s s' : State} {pas : List Nat} (hk : k ≠ .fetch)
    (h : accessPas k ea n s = .ok pas s') : OnlyMmu s s' := by
  have f := (accessPas_frame k ea n s).1 _ _ h
  refine ⟨?_, f.resv, fun hs => ?_⟩
  · conv_lhs => rw [f.eq, f.immu hk]
  · have hm : mmuConfig s.cfg k = s.cfg.dmmu := by cases k <;> first | exact absurd rfl hk | rfl
    conv_lhs => rw [f.soft (by rw [hm]; exact hs), f.immu hk]

theorem accessPas_wf {k : AccKind} {ea : Word} {n : Nat} {s s' : State} {pas : List Nat}
    (h : accessPas k ea n s = .ok pas s') (hw : Memory.wf s.mem = true) : Memory.wf s'.mem = true :=
  ((accessPas_frame k ea n s).1 _ _ h).wf hw

theorem foldl_bytes_mod (bs : List Byte) (n : Nat) :
    bs.foldl (fun v b => v * 256 + b.toNat) (n % 2 ^ 64) % 2 ^ 64 = bs.foldl (fun v b => v * 256 + b.toNat) n % 2 ^ 64 := by
  induction bs generalizing n with
  | nil => simp
  | cons c cs ih =>
    simp only [List.foldl_cons]
    rw [← ih (n % 2 ^ 64 * 256 + c.toNat), ← ih (n * 256 + c.toNat),
      show (n % 2 ^ 64 * 256 + c.toNat) % 2 ^ 64 = (n * 256 + c.toNat) % 2 ^ 64 by omega]

theorem foldl_join_toNat (bs : List Byte) (v : BitVec 64) :
    (bs.foldl (fun (acc : BitVec 64) (b : Byte) => (acc <<< 8) ||| b.setWidth 64) v).toNat
      = bs.foldl (fun v b => v * 256 + b.toNat) v.toNat % 2 ^ 64 := by
  induction bs generalizing v with
  | nil => simpa using (Nat.mod_eq_of_lt v.isLt).symm
  | cons b bs ih =>
    simp only [List.foldl_cons]
    have hb := b.isLt
    have h : (v <<< 8 ||| b.setWidth 64).toNat = (v.toNat * 256 + b.toNat) % 2 ^ 64 := by
      rw [BitVec.toNat_or, BitVec.toNat_shiftLeft, BitVec.toNat_setWidth, Nat.shiftLeft_eq,
        Nat.mod_eq_of_lt (a := b.toNat) (by omega), show v.toNat * 2 ^ 8 % 2 ^ 64 = 2 ^ 8 * (v.toNat % 2 ^ 56) by omega,
        ← Nat.two_pow_add_eq_or_of_lt (by omega)]
      omega
    rw [ih, h, foldl_bytes_mod]

/-- Bytes joined are their value modulo 2^64. -/
theorem joinBytes_eq (bs : List Byte) : joinBytes bs = BitVec.ofNat 64 (bytesValue bs) :=
  BitVec.eq_of_toNat_eq (by rw [BitVec.toNat_ofNat]; exact foldl_join_toNat bs 0)

/-- A load whose checks succeed outside the OMPIC reads the operand and records the access. -/
theorem loadAt_ok {ea : Word} {n : Nat} {s s' : State} {pas : List Nat} (h : accessPas .load ea n s = .ok pas s')
    (ho : ompicAccess s.cfg pas = none) :
    loadAt ea n s = .ok (pas, BitVec.ofNat 64 (operandValue s' pas))
      { s' with acc := some { kind := .load, ea := ea, data := BitVec.ofNat 64 (operandValue s' pas) } } := by
  have hc := ((accessPas_frame .load ea n s).1 _ _ h).cfg
  have hj : joinBytes (dataOrder s' (pas.map (readByte s'.mem))) = BitVec.ofNat 64 (operandValue s' pas) := joinBytes_eq _
  unfold loadAt readAt
  rw [h]
  simp only [hc, ho]
  rw [hj]

theorem memRead_ok {ea : Word} {n : Nat} {s s' : State} {pas : List Nat} (h : accessPas .load ea n s = .ok pas s')
    (ho : ompicAccess s.cfg pas = none) :
    memRead ea n s = .ok (BitVec.ofNat 64 (operandValue s' pas))
      { s' with acc := some { kind := .load, ea := ea, data := BitVec.ofNat 64 (operandValue s' pas) } } := by
  unfold memRead
  rw [loadAt_ok h ho]

/-- A store outside the OMPIC writes the operand's bytes. -/
theorem writeAt_ok {ea : Word} {n : Nat} {v : BitVec 64} {s : State} {pas : List Nat} (ho : ompicAccess s.cfg pas = none) :
    writeAt ea n v pas s = .ok () (storeAt ea n v pas s) := by
  unfold writeAt
  rw [ho]

theorem memWrite_ok {ea : Word} {n : Nat} {v : BitVec 64} {s s' : State} {pas : List Nat}
    (h : accessPas .store ea n s = .ok pas s') (ho : ompicAccess s.cfg pas = none) :
    memWrite ea n v s = .ok () (storeAt ea n v pas s') := by
  have hc := ((accessPas_frame .store ea n s).1 _ _ h).cfg
  unfold memWrite
  rw [h]
  exact writeAt_ok (by rw [hc]; exact ho)

/-- A load or store whose checks raise an exception raises it in the state before it. -/
theorem loadAt_exc {ea : Word} {n : Nat} {s s' : State} {e : Exc} (h : accessPas .load ea n s = .exc e s') :
    loadAt ea n s = .exc e s := by
  unfold loadAt
  rw [h, accessPas_exc h]

theorem memWrite_exc {ea : Word} {n : Nat} {v : BitVec 64} {s s' : State} {e : Exc}
    (h : accessPas .store ea n s = .exc e s') : memWrite ea n v s = .exc e s := by
  unfold memWrite
  rw [h, accessPas_exc h]

/-- Byte `j` of a data operand, lowest address first. -/
theorem dataOrder_getElem (s : State) (n : Nat) (v : Word) (j : Nat) (hj : j < n) :
    (dataOrder s (splitBytes n v))[j]? = some (operandByte s n v j) := by
  unfold dataOrder operandByte splitBytes
  split
  · rw [List.getElem?_reverse (by simpa using hj), List.getElem?_eq_getElem (by simp; omega)]
    simp; congr 2; omega
  · simp [hj]

theorem keepResv_some (r : Nat) (pas : List Nat) :
    keepResv (some r) pas = if ∃ p ∈ pas, p / 4 = r / 4 then none else some r := by
  simp [keepResv, overlaps]

theorem keepResv_none (pas : List Nat) : keepResv none pas = none := by simp [keepResv, overlaps]

theorem bytePas_length {k : AccKind} {as : List Word} {s s' : State} {pas : List Nat} (h : bytePas k as s = .ok pas s') :
    pas.length = as.length := by
  induction as generalizing s s' pas with
  | nil => simp [bytePas] at h; simp [← h.1]
  | cons a as ih =>
    unfold bytePas at h
    split at h
    · cases h
    · cases h
    · split at h
      · split at h
        · rename_i hh; simp only [AccRes.ok.injEq] at h; rw [← h.1]; simp [ih hh]
        · cases h
        · cases h
      · cases h

/-- The checks answer one address for every byte. -/
theorem accessPas_length {k : AccKind} {ea : Word} {n : Nat} {s s' : State} {pas : List Nat}
    (h : accessPas k ea n s = .ok pas s') : pas.length = n := by
  unfold accessPas at h
  split at h
  · rw [AccRes.undone_ok] at h
    unfold wholePas at h
    split at h
    · cases h
    · cases h
    · split at h
      · simp only [AccRes.ok.injEq] at h; rw [← h.1]; simp
      · cases h
  · split at h
    · rw [AccRes.undone_ok] at h
      rw [bytePas_length h]; simp [byteAddrs]
    · cases h

end Sys2Proof.Machine
end

