-- ==== Sys2Proof/Laws/Custom.lean ====
section
/-! SUPPORT. Laws of what a custom instruction writes. -/

namespace Sys2Proof.Machine

/-- A register write of a custom instruction changes the registers of the current context alone. -/
theorem customReg_eq (s : State) (p : RegNo × Word) : customReg s p = { s with gpr := (customReg s p).gpr } := by
  unfold customReg; split <;> rfl

/-- So do all of them. -/
theorem customRegs_eq (l : List (RegNo × Word)) (s : State) :
    l.foldl customReg s = { s with gpr := (l.foldl customReg s).gpr } := by
  induction l generalizing s with
  | nil => rfl
  | cons p l ih => rw [List.foldl_cons, ih, customReg_eq]

/-- The last write of a register is the one that counts. -/
theorem customRegs_reg (l : List (RegNo × Word)) (s : State) (r : RegNo) (hr : r.toNat < s.cfg.ngpr) :
    (l.foldl customReg s).reg r = match l.reverse.find? fun q => q.1 == r with
      | some q => trunc s.cfg q.2
      | none => s.reg r := by
  induction l generalizing s with
  | nil => rfl
  | cons p l ih =>
    have hc : (customReg s p).cfg = s.cfg := by rw [customReg_eq]
    rw [List.foldl_cons, ih _ (by rw [hc]; exact hr), List.reverse_cons, List.find?_append, hc]
    cases l.reverse.find? fun q => q.1 == r with
    | some q => rfl
    | none =>
      by_cases h : p.1 = r
      · subst h; simp [customReg, hr]
      · have : (p.1 == r) = false := by simpa using h
        simp only [List.find?_cons, this, List.find?_nil, Option.none_or]
        unfold customReg
        split
        · exact reg_setReg_ne s _ _ _ (Ne.symm h)
        · rfl

/-- Registers that are not written keep their values, in every context. -/
theorem customRegs_frame (l : List (RegNo × Word)) (s : State) : GprFrame s (l.foldl customReg s) (l.map fun q => q.1) := by
  induction l generalizing s with
  | nil => exact gprFrame_refl rfl _
  | cons p l ih =>
    intro c r h
    have hx : (customReg s p).ctx = s.ctx := by rw [customReg_eq]; rfl
    rw [List.foldl_cons, ih _ c r (by rw [hx]; exact fun ⟨a, b⟩ => h ⟨a, by simp [b]⟩)]
    unfold customReg
    split
    · exact gprFrame_setReg p.1 p.2 rfl c r fun ⟨a, b⟩ => h ⟨a, by simp_all⟩
    · rfl

/-- Bytes written by another master, or by a custom instruction, change memory and the reservation alone. -/
theorem foreignWrites_eq (l : List Host.Cell) (s : State) :
    l.foldl foreignWrite s =
      { s with mem := (l.foldl foreignWrite s).mem, resv := (l.foldl foreignWrite s).resv } := by
  induction l generalizing s with
  | nil => rfl
  | cons w l ih => rw [List.foldl_cons, ih]; rfl

/-- They keep the canonical form of memory. -/
theorem foreignWrites_wf (l : List Host.Cell) (s : State) (h : Memory.wf s.mem = true) :
    Memory.wf (l.foldl foreignWrite s).mem = true := by
  induction l generalizing s with
  | nil => exact h
  | cons w l ih => exact ih _ (writeByte_wf _ _ _ h)

/-- The last write of a byte is the one that counts. -/
theorem foreignWrites_read (l : List Host.Cell) (s : State) (h : Memory.wf s.mem = true) (x : Nat) :
    readByte (l.foldl foreignWrite s).mem x = match l.reverse.find? fun q => q.1 == x with
      | some q => q.2
      | none => readByte s.mem x := by
  induction l generalizing s with
  | nil => rfl
  | cons w l ih =>
    rw [List.foldl_cons, ih _ (writeByte_wf _ _ _ h), List.reverse_cons, List.find?_append]
    cases l.reverse.find? fun q => q.1 == x with
    | some q => rfl
    | none =>
      by_cases hw : w.1 = x
      · subst hw; simp [foreignWrite, readByte_writeByte _ _ _ _ h]
      · have : (w.1 == x) = false := by simpa using hw
        simp [foreignWrite, readByte_writeByte _ _ _ _ h, this, Ne.symm hw]

/-- A reservation lasts exactly while no byte of its word is written. -/
theorem foreignWrites_resv (l : List Host.Cell) (s : State) (r : Nat) (hr : s.resv = some r) :
    (l.foldl foreignWrite s).resv = if ∃ q ∈ l, q.1 / 4 = r / 4 then none else some r := by
  have hn : ∀ (l : List Host.Cell) (s : State), s.resv = none → (l.foldl foreignWrite s).resv = none := by
    intro l
    induction l with
    | nil => exact fun _ h => h
    | cons w l ih => exact fun s h => ih _ (by simp [foreignWrite, keepResv, overlaps, h])
  induction l generalizing s with
  | nil => simpa using hr
  | cons w l ih =>
    rw [List.foldl_cons]
    by_cases hw : w.1 / 4 = r / 4
    · rw [hn l _ (by simp [foreignWrite, keepResv, overlaps, hr, hw]), if_pos ⟨w, by simp, hw⟩]
    · rw [ih _ (by simp [foreignWrite, keepResv, overlaps, hr, hw])]
      have : (∃ q ∈ w :: l, q.1 / 4 = r / 4) ↔ ∃ q ∈ l, q.1 / 4 = r / 4 := by
        rw [List.exists_mem_cons_iff]; exact or_iff_right hw
      simp only [this]

end Sys2Proof.Machine
end

