-- ==== Sys2Proof/Laws/Debug.lean ====
section
/-! SUPPORT. Laws of the debug unit: selectors, chains and the watchpoints of the counters (R142, R148). -/

namespace Sys2Proof.Machine

/-- The chain selector of watchpoint `n`, as a number. -/
theorem chainSel_toNat (s : State) (n : Nat) : (chainSel s n).toNat = s.dbg.dmr1.toNat / 4 ^ n % 4 := by
  simp [chainSel, BitVec.extractLsb'_toNat, Nat.shiftRight_eq_div_pow, Nat.pow_mul]

/-- When a chain fires its watchpoint. -/
theorem chain_iff (sel : BitVec 2) (m x : Bool) : chain sel m x = true ↔
    (sel.toNat = 0 ∧ m = true) ∨ (sel.toNat = 1 ∧ m = true ∧ x = true) ∨ (sel.toNat = 2 ∧ (m = true ∨ x = true)) := by
  unfold chain; split <;> simp_all

/-- When a counter is at its match value. -/
theorem counterMatch_iff (c : Config) (r : Word32) :
    counterMatch c r = true ↔ c.wpci = true ∧ r.toNat % 2 ^ 16 = r.toNat / 2 ^ 16 := by
  have := r.isLt
  simp only [counterMatch, Bool.and_eq_true, decide_eq_true_eq]
  refine and_congr Iff.rfl ?_
  rw [← BitVec.toNat_inj]
  simp [BitVec.extractLsb'_toNat, Nat.shiftRight_eq_div_pow]
  omega

/-- When a counter feeds its watchpoint before an instruction. -/
theorem fetchMatch_iff (c : Config) (sel : BitVec 2) (before after : Word32) : fetchMatch c sel before after = true ↔
    counterMatch c after = true ∧ (counterMatch c before = false ∨ sel = 1) := by
  simp [fetchMatch]

/-- Watchpoint 8 is the chain of counter 0 and watchpoint 3. -/
@[simp] theorem counterPoints_8 (s : State) (m0 m1 : Bool) (w : BitVec 8) :
    (counterPoints s m0 m1 w).getLsbD 8 = chain (chainSel s 8) m0 (w.getLsbD 3) := by
  unfold counterPoints
  generalize chain (chainSel s 8) m0 (w.getLsbD 3) = x
  generalize chain (chainSel s 9) m1 (w.getLsbD 7) = y
  cases x <;> cases y <;> rfl

/-- Watchpoint 9 is the chain of counter 1 and watchpoint 7. -/
@[simp] theorem counterPoints_9 (s : State) (m0 m1 : Bool) (w : BitVec 8) :
    (counterPoints s m0 m1 w).getLsbD 9 = chain (chainSel s 9) m1 (w.getLsbD 7) := by
  unfold counterPoints
  generalize chain (chainSel s 8) m0 (w.getLsbD 3) = x
  generalize chain (chainSel s 9) m1 (w.getLsbD 7) = y
  cases x <;> cases y <;> rfl

end Sys2Proof.Machine
end

