-- ==== Sys2Proof/Laws/Encoding.lean ====
section
/-! SUPPORT. The fields of each instruction format: what each encoding function puts where the decoder looks. -/

namespace Sys2Proof

/-- The bytes of a word decode as the word does. -/
theorem decode_bytesOfWord (w : Word32) : decode (bytesOfWord w) = decodeWord w := by
  have h : wordOfBytes (w.extractLsb' 24 8) (w.extractLsb' 16 8) (w.extractLsb' 8 8) (w.extractLsb' 0 8) = w := by
    unfold wordOfBytes
    apply BitVec.eq_of_toNat_eq
    simp only [BitVec.toNat_append, BitVec.extractLsb'_toNat, Nat.shiftRight_eq_div_pow]
    have := w.isLt
    rw [← Nat.shiftLeft_add_eq_or_of_lt (by omega), ← Nat.shiftLeft_add_eq_or_of_lt (by omega),
      ← Nat.shiftLeft_add_eq_or_of_lt (by omega)]
    simp only [Nat.shiftLeft_eq]
    omega
  unfold bytesOfWord decode
  simp only [h]

/-- Two halves of a field, joined again. -/
theorem extract_append (n m : Nat) (x : BitVec (n + m)) : x.extractLsb' m n ++ x.extractLsb' 0 m = x := by
  ext j hj
  simp only [BitVec.getElem_append, BitVec.getElem_extractLsb']
  split
  · simp [BitVec.getLsbD_eq_getElem hj]
  · rw [show m + (j - m) = j by omega, BitVec.getLsbD_eq_getElem hj]

/-- The fields of `encAlu`. -/
theorem encAlu_fields (d a b : RegNo) (hi : BitVec 2) (lo : BitVec 4) :
    (encAlu d a b hi lo).extractLsb' 26 6 = 0x38#6 ∧
    (encAlu d a b hi lo).extractLsb' 21 5 = d ∧
    (encAlu d a b hi lo).extractLsb' 16 5 = a ∧
    (encAlu d a b hi lo).extractLsb' 11 5 = b ∧
    (encAlu d a b hi lo).extractLsb' 8 2 = hi ∧
    (encAlu d a b hi lo).extractLsb' 0 4 = lo := by
  unfold encAlu
  refine ⟨?_, ?_, ?_, ?_, ?_, ?_⟩ <;>
    (simp (disch := decide) only [BitVec.extractLsb'_append_eq_of_le, BitVec.extractLsb'_append_eq_of_add_le]; try simp)

/-- The fields of `encSub`. -/
theorem encSub_fields (d a b : RegNo) (hi lo : BitVec 4) :
    (encSub d a b hi lo).extractLsb' 26 6 = 0x38#6 ∧
    (encSub d a b hi lo).extractLsb' 21 5 = d ∧
    (encSub d a b hi lo).extractLsb' 16 5 = a ∧
    (encSub d a b hi lo).extractLsb' 11 5 = b ∧
    (encSub d a b hi lo).extractLsb' 6 4 = hi ∧
    (encSub d a b hi lo).extractLsb' 0 4 = lo := by
  unfold encSub
  refine ⟨?_, ?_, ?_, ?_, ?_, ?_⟩ <;>
    (simp (disch := decide) only [BitVec.extractLsb'_append_eq_of_le, BitVec.extractLsb'_append_eq_of_add_le]; try simp)

/-- The fields of `encRri`. -/
theorem encRri_fields (op : BitVec 6) (d a : RegNo) (i : BitVec 16) :
    (encRri op d a i).extractLsb' 26 6 = op ∧
    (encRri op d a i).extractLsb' 21 5 = d ∧
    (encRri op d a i).extractLsb' 16 5 = a ∧
    (encRri op d a i).extractLsb' 0 16 = i := by
  unfold encRri
  refine ⟨?_, ?_, ?_, ?_⟩ <;>
    (simp (disch := decide) only [BitVec.extractLsb'_append_eq_of_le, BitVec.extractLsb'_append_eq_of_add_le]; try simp)

/-- The fields of `encStore`. -/
theorem encStore_fields (op : BitVec 6) (a b : RegNo) (i : BitVec 16) :
    (encStore op a b i).extractLsb' 26 6 = op ∧
    (encStore op a b i).extractLsb' 16 5 = a ∧
    (encStore op a b i).extractLsb' 11 5 = b := by
  unfold encStore
  refine ⟨?_, ?_, ?_⟩ <;>
    (simp (disch := decide) only [BitVec.extractLsb'_append_eq_of_le, BitVec.extractLsb'_append_eq_of_add_le]; try simp)

/-- The fields of `encShi`. -/
theorem encShi_fields (d a : RegNo) (op : BitVec 2) (l : BitVec 6) :
    (encShi d a op l).extractLsb' 26 6 = 0x2E#6 ∧
    (encShi d a op l).extractLsb' 21 5 = d ∧
    (encShi d a op l).extractLsb' 16 5 = a ∧
    (encShi d a op l).extractLsb' 6 2 = op ∧
    (encShi d a op l).extractLsb' 0 6 = l := by
  unfold encShi
  refine ⟨?_, ?_, ?_, ?_, ?_⟩ <;>
    (simp (disch := decide) only [BitVec.extractLsb'_append_eq_of_le, BitVec.extractLsb'_append_eq_of_add_le]; try simp)

/-- The fields of `encSfi`. -/
theorem encSfi_fields (op : BitVec 5) (a : RegNo) (i : BitVec 16) :
    (encSfi op a i).extractLsb' 26 6 = 0x2F#6 ∧
    (encSfi op a i).extractLsb' 21 5 = op ∧
    (encSfi op a i).extractLsb' 16 5 = a ∧
    (encSfi op a i).extractLsb' 0 16 = i := by
  unfold encSfi
  refine ⟨?_, ?_, ?_, ?_⟩ <;>
    (simp (disch := decide) only [BitVec.extractLsb'_append_eq_of_le, BitVec.extractLsb'_append_eq_of_add_le]; try simp)

/-- The fields of `encSf`. -/
theorem encSf_fields (op : BitVec 5) (a b : RegNo) :
    (encSf op a b).extractLsb' 26 6 = 0x39#6 ∧
    (encSf op a b).extractLsb' 21 5 = op ∧
    (encSf op a b).extractLsb' 16 5 = a ∧
    (encSf op a b).extractLsb' 11 5 = b := by
  unfold encSf
  refine ⟨?_, ?_, ?_, ?_⟩ <;>
    (simp (disch := decide) only [BitVec.extractLsb'_append_eq_of_le, BitVec.extractLsb'_append_eq_of_add_le]; try simp)

/-- The fields of `encMac`. -/
theorem encMac_fields (a b : RegNo) (op : BitVec 4) :
    (encMac a b op).extractLsb' 26 6 = 0x31#6 ∧
    (encMac a b op).extractLsb' 16 5 = a ∧
    (encMac a b op).extractLsb' 11 5 = b ∧
    (encMac a b op).extractLsb' 0 4 = op := by
  unfold encMac
  refine ⟨?_, ?_, ?_, ?_⟩ <;>
    (simp (disch := decide) only [BitVec.extractLsb'_append_eq_of_le, BitVec.extractLsb'_append_eq_of_add_le]; try simp)

/-- The fields of `encMinor`. -/
theorem encMinor_fields (op : BitVec 6) (d a b : RegNo) (d2 a2 b2 : BitVec 1) (minor : BitVec 8) :
    (encMinor op d a b d2 a2 b2 minor).extractLsb' 26 6 = op ∧
    (encMinor op d a b d2 a2 b2 minor).extractLsb' 21 5 = d ∧
    (encMinor op d a b d2 a2 b2 minor).extractLsb' 16 5 = a ∧
    (encMinor op d a b d2 a2 b2 minor).extractLsb' 11 5 = b ∧
    (encMinor op d a b d2 a2 b2 minor).extractLsb' 10 1 = d2 ∧
    (encMinor op d a b d2 a2 b2 minor).extractLsb' 9 1 = a2 ∧
    (encMinor op d a b d2 a2 b2 minor).extractLsb' 8 1 = b2 ∧
    (encMinor op d a b d2 a2 b2 minor).extractLsb' 0 8 = minor := by
  unfold encMinor
  refine ⟨?_, ?_, ?_, ?_, ?_, ?_, ?_, ?_⟩ <;>
    (simp (disch := decide) only [BitVec.extractLsb'_append_eq_of_le, BitVec.extractLsb'_append_eq_of_add_le]; try simp)

/-- The fields of `encJ`. -/
theorem encJ_fields (op : BitVec 6) (n : BitVec 26) :
    (encJ op n).extractLsb' 26 6 = op ∧
    (encJ op n).extractLsb' 0 26 = n := by
  unfold encJ
  refine ⟨?_, ?_⟩ <;>
    (simp (disch := decide) only [BitVec.extractLsb'_append_eq_of_le, BitVec.extractLsb'_append_eq_of_add_le]; try simp)

/-- The fields of `encJr`. -/
theorem encJr_fields (op : BitVec 6) (b : RegNo) :
    (encJr op b).extractLsb' 26 6 = op ∧
    (encJr op b).extractLsb' 11 5 = b := by
  unfold encJr
  refine ⟨?_, ?_⟩ <;>
    (simp (disch := decide) only [BitVec.extractLsb'_append_eq_of_le, BitVec.extractLsb'_append_eq_of_add_le]; try simp)

/-- The immediate of `encStore`, whose two parts the decoder joins. -/
theorem encStore_imm (op : BitVec 6) (a b : RegNo) (i : BitVec 16) : splitImm (encStore op a b i) = i := by
  have h1 : (encStore op a b i).extractLsb' 21 5 = i.extractLsb' 11 5 := by
    unfold encStore
    simp (disch := decide) only [BitVec.extractLsb'_append_eq_of_le, BitVec.extractLsb'_append_eq_of_add_le]
    simp
  have h2 : (encStore op a b i).extractLsb' 0 11 = i.extractLsb' 0 11 := by
    unfold encStore
    simp (disch := decide) only [BitVec.extractLsb'_append_eq_of_add_le]
    simp
  unfold splitImm
  rw [h1, h2]
  exact extract_append 5 11 i

/-- The vector minor opcodes with bits 7-4 from 1 to 7 that are assigned, by bits 3-0 (R315). -/
theorem decodeVecs_ok_iff (w : Word32) :
    ((∃ i, decodeVec1 w = .ok i) ↔ (w.extractLsb' 0 4).toNat ≤ 0xB) ∧
    ((∃ i, decodeVec2 w = .ok i) ↔ (w.extractLsb' 0 4).toNat ≤ 0xB) ∧
    ((∃ i, decodeVec3 w = .ok i) ↔ (w.extractLsb' 0 4).toNat ≤ 0xA) ∧
    ((∃ i, decodeVec4 w = .ok i) ↔ (w.extractLsb' 0 4).toNat ≤ 0xB) ∧
    ((∃ i, decodeVec5 w = .ok i) ↔ 4 ≤ (w.extractLsb' 0 4).toNat) ∧
    (∃ i, decodeVec6 w = .ok i) ∧
    ((∃ i, decodeVec7 w = .ok i) ↔ (w.extractLsb' 0 4).toNat ≤ 0xB) := by
  unfold decodeVec1 decodeVec2 decodeVec3 decodeVec4 decodeVec5 decodeVec6 decodeVec7
  generalize hn : (w.extractLsb' 0 4).toNat = n
  have h : n < 16 := hn ▸ (w.extractLsb' 0 4).isLt
  clear hn
  refine ⟨?_, ?_, ?_, ?_, ?_, ?_, ?_⟩ <;> interval_cases n <;> simp

/-- A word of major opcode 0x0A is an instruction exactly when its minor opcode is one that R315 assigns; what R820 says is
not in ORVDX64 has none. -/
theorem decodeVec_ok_iff (w : Word32) : (∃ i, decodeVec w = .ok i) ↔
    ∃ r ∈ ([(0x10, 0x1B), (0x20, 0x2B), (0x30, 0x3A), (0x40, 0x4B), (0x54, 0x7B), (0xC0, 0xFF)] : List (Nat × Nat)),
      r.1 ≤ w.toNat % 2 ^ 8 ∧ w.toNat % 2 ^ 8 ≤ r.2 := by
  have e : w.toNat % 2 ^ 8 = 16 * (w.extractLsb' 4 4).toNat + (w.extractLsb' 0 4).toNat := by
    simp only [BitVec.extractLsb'_toNat, Nat.shiftRight_eq_div_pow]; omega
  have h : (w.extractLsb' 0 4).toNat < 16 := (w.extractLsb' 0 4).isLt
  obtain ⟨h1, h2, h3, h4, h5, h6, h7⟩ := decodeVecs_ok_iff w
  rw [e]
  unfold decodeVec
  have hm : (w.extractLsb' 4 4).toNat < 16 := (w.extractLsb' 4 4).isLt
  generalize (w.extractLsb' 4 4).toNat = m at hm ⊢
  interval_cases m <;> simp [h1, h2, h3, h4, h5, h6, h7] <;> omega

end Sys2Proof
end

