-- ==== Sys2Proof/Laws/Vector.lean ====
section
/-! SUPPORT. Vector results: the elements of a register built element by element, saturation, and the frame. -/

namespace Sys2Proof.Machine

theorem byteEl_vecB (f : Nat → BitVec 8) (k : Nat) (h : k < 8) : byteEl (vecB f) k = f k := by
  unfold byteEl vecB
  interval_cases k <;>
    (simp (disch := decide) only [BitVec.extractLsb'_append_eq_of_le, BitVec.extractLsb'_append_eq_of_add_le]; simp)

theorem halfEl_vecH (f : Nat → BitVec 16) (k : Nat) (h : k < 4) : halfEl (vecH f) k = f k := by
  unfold halfEl vecH
  interval_cases k <;>
    (simp (disch := decide) only [BitVec.extractLsb'_append_eq_of_le, BitVec.extractLsb'_append_eq_of_add_le]; simp)

theorem nibbleEl_vecN (f : Nat → BitVec 4) (k : Nat) (h : k < 16) : nibbleEl (vecN f) k = f k := by
  unfold nibbleEl vecN
  interval_cases k <;>
    (simp (disch := decide) only [BitVec.extractLsb'_append_eq_of_le, BitVec.extractLsb'_append_eq_of_add_le]; simp)

/-- The value of a signed saturated field. -/
theorem satS_toInt {n : Nat} (hn : 0 < n) (z : Int) :
    (satS n z).toInt = max (-(2 : Int) ^ (n - 1)) (min (2 ^ (n - 1) - 1) z) := by
  have e : (2 : Int) ^ n = 2 * 2 ^ (n - 1) := by rw [← pow_succ']; congr 1; omega
  have p : (0 : Int) < 2 ^ (n - 1) := by positivity
  have h1 : -(2 : Int) ^ (n - 1) ≤ max (-(2 : Int) ^ (n - 1)) (min (2 ^ (n - 1) - 1) z) := le_max_left _ _
  have h2 : max (-(2 : Int) ^ (n - 1)) (min (2 ^ (n - 1) - 1) z) ≤ 2 ^ (n - 1) - 1 :=
    max_le (by omega) (min_le_left _ _)
  unfold satS
  rw [BitVec.toInt_ofInt, Int.bmod_eq_of_le] <;> push_cast <;> omega

/-- The value of an unsigned saturated field. -/
theorem satU_toNat (n : Nat) (z : Int) : ((satU n z).toNat : Int) = max 0 (min (2 ^ n - 1) z) := by
  have p : (0 : Int) < 2 ^ n := by positivity
  have h1 : 0 ≤ max 0 (min ((2 : Int) ^ n - 1) z) := le_max_left _ _
  have h2 : max 0 (min ((2 : Int) ^ n - 1) z) ≤ 2 ^ n - 1 := max_le (by omega) (min_le_left _ _)
  unfold satU
  rw [BitVec.toNat_ofInt, Int.toNat_of_nonneg (Int.emod_nonneg _ (by push_cast; omega)),
    Int.emod_eq_of_lt (by omega) (by push_cast; omega)]

/-- ORVDX64 exists on XLEN = 64 only. -/
theorem xlen_of_vector {s : State} {i : Instr} (h : Ready s i)
    (hi : subsetPresent s.cfg i = (s.cfg.xlen == .x64 && s.cfg.orvdx64)) : s.cfg.xlen = .x64 := by
  have := h.impl
  unfold implemented at this
  rw [hi] at this
  simp only [Bool.and_eq_true, beq_iff_eq] at this
  exact this.1.1

/-- A result built element by element completes as `LanesB` says. -/
theorem lanesB_intro {i : Instr} {s : State} {d : RegNo} {f : Nat → BitVec 8} {P : Nat → BitVec 8 → Prop}
    (h : exec i s = result d (vecB f) s) (hx : s.cfg.xlen = .x64) (hp : ∀ k, k < 8 → P k (f k)) : LanesB i s d P :=
  ⟨vecB f, regResult_plain h (trunc_x64 _ _ hx), fun k hk => by rw [byteEl_vecB f k hk]; exact hp k hk⟩

/-- A result built element by element completes as `LanesH` says. -/
theorem lanesH_intro {i : Instr} {s : State} {d : RegNo} {f : Nat → BitVec 16} {P : Nat → BitVec 16 → Prop}
    (h : exec i s = result d (vecH f) s) (hx : s.cfg.xlen = .x64) (hp : ∀ k, k < 4 → P k (f k)) : LanesH i s d P :=
  ⟨vecH f, regResult_plain h (trunc_x64 _ _ hx), fun k hk => by rw [halfEl_vecH f k hk]; exact hp k hk⟩

/-- A result built element by element completes as `LanesN` says. -/
theorem lanesN_intro {i : Instr} {s : State} {d : RegNo} {f : Nat → BitVec 4} {P : Nat → BitVec 4 → Prop}
    (h : exec i s = result d (vecN f) s) (hx : s.cfg.xlen = .x64) (hp : ∀ k, k < 16 → P k (f k)) : LanesN i s d P :=
  ⟨vecN f, regResult_plain h (trunc_x64 _ _ hx), fun k hk => by rw [nibbleEl_vecN f k hk]; exact hp k hk⟩

end Sys2Proof.Machine
end

