-- ==== Sys2Proof/Tests/Slice0.lean ====
section
/-! SUPPORT. Tests. The words and expected results are those of the spec's opcode table and of its vectors in
`spec/95_test_vectors.md` and `spec/96_test_vectors_fp_vector.md` (their numbers are in the names), or reckoned by hand
from the rules. After them, a state and operands that meet the hypotheses of each statement. -/

namespace Sys2Proof.Tests

set_option Elab.async false

open Sys2Proof Sys2Proof.Machine

/-- Every word of the list decodes to its instruction. -/
def decodesAs (l : List (Word32 × Instr)) : Bool := l.all fun p => decide (decodeWord p.1 = .ok p.2)

/-- The words of the family as the opcode table lays them out, with rD = 3, rA = 4, rB = 21. -/
theorem test_decodeArith : decodesAs [
    (0xE064A800, .lAdd 3 4 21), (0xE064A801, .lAddc 3 4 21), (0x9C648001, .lAddi 3 4 0x8001),
    (0xA0648001, .lAddic 3 4 0x8001), (0xE064A802, .lSub 3 4 21), (0xE064A803, .lAnd 3 4 21),
    (0xA4648001, .lAndi 3 4 0x8001), (0xE064A804, .lOr 3 4 21), (0xA8648001, .lOri 3 4 0x8001),
    (0xE064A805, .lXor 3 4 21), (0xAC648001, .lXori 3 4 0x8001), (0x18608001, .lMovhi 3 0x8001),
    (0x08700001, .lAdrp 3 0x100001), (0xE064A80E, .lCmov 3 4 21), (0xE064A808, .lSll 3 4 21),
    (0xB8640021, .lSlli 3 4 0x21), (0xE064A848, .lSrl 3 4 21), (0xB8640061, .lSrli 3 4 0x21),
    (0xE064A888, .lSra 3 4 21), (0xB86400A1, .lSrai 3 4 0x21), (0xE064A8C8, .lRor 3 4 21),
    (0xB86400E1, .lRori 3 4 0x21), (0xE064AB06, .lMul 3 4 21), (0xB0648001, .lMuli 3 4 0x8001),
    (0xE064AB0B, .lMulu 3 4 21), (0xE004AB07, .lMuld 4 21), (0xE004AB0C, .lMuldu 4 21), (0xE064AB09, .lDiv 3 4 21),
    (0xE064AB0A, .lDivu 3 4 21), (0xE064004C, .lExtbs 3 4), (0xE06400CC, .lExtbz 3 4), (0xE064000C, .lExths 3 4),
    (0xE064008C, .lExthz 3 4), (0xE064000D, .lExtws 3 4), (0xE064004D, .lExtwz 3 4), (0xE064000F, .lFf1 3 4),
    (0xE064010F, .lFl1 3 4)] = true := by decide +kernel

/-- The words of the family as the opcode table lays them out, with rD = 3, rA = 4, rB = 21. -/
theorem test_decodeCompare : decodesAs [
    (0xE404A800, .lSfeq 4 21), (0xE424A800, .lSfne 4 21), (0xE444A800, .lSfgtu 4 21), (0xE464A800, .lSfgeu 4 21),
    (0xE484A800, .lSfltu 4 21), (0xE4A4A800, .lSfleu 4 21), (0xE544A800, .lSfgts 4 21), (0xE564A800, .lSfges 4 21),
    (0xE584A800, .lSflts 4 21), (0xE5A4A800, .lSfles 4 21), (0xBC048001, .lSfeqi 4 0x8001),
    (0xBC248001, .lSfnei 4 0x8001), (0xBC448001, .lSfgtui 4 0x8001), (0xBC648001, .lSfgeui 4 0x8001),
    (0xBC848001, .lSfltui 4 0x8001), (0xBCA48001, .lSfleui 4 0x8001), (0xBD448001, .lSfgtsi 4 0x8001),
    (0xBD648001, .lSfgesi 4 0x8001), (0xBD848001, .lSfltsi 4 0x8001), (0xBDA48001, .lSflesi 4 0x8001)] = true := by decide +kernel

/-- The words of the family as the opcode table lays them out, with rD = 3, rA = 4, rB = 21. -/
theorem test_decodeLoadStore : decodesAs [
    (0x8C648001, .lLbz 3 4 0x8001), (0x90648001, .lLbs 3 4 0x8001), (0x94648001, .lLhz 3 4 0x8001),
    (0x98648001, .lLhs 3 4 0x8001), (0x84648001, .lLwz 3 4 0x8001), (0x88648001, .lLws 3 4 0x8001),
    (0x80648001, .lLd 3 4 0x8001), (0x68648001, .lLf 3 4 0x8001), (0x6C648001, .lLwa 3 4 0x8001),
    (0xDA04A801, .lSb 4 21 0x8001), (0xDE04A801, .lSh 4 21 0x8001), (0xD604A801, .lSw 4 21 0x8001),
    (0xD204A801, .lSd 4 21 0x8001), (0xCE04A801, .lSwa 4 21 0x8001)] = true := by decide +kernel

/-- The words of the family as the opcode table lays them out, with rD = 3, rA = 4, rB = 21. -/
theorem test_decodeControl : decodesAs [
    (0x13FFFFFE, .lBf 0x3fffffe), (0x0FFFFFFE, .lBnf 0x3fffffe), (0x03FFFFFE, .lJ 0x3fffffe),
    (0x07FFFFFE, .lJal 0x3fffffe), (0x4400A800, .lJr 21), (0x4800A800, .lJalr 21), (0x15008001, .lNop 0x8001)] = true := by decide +kernel

/-- The words of the family as the opcode table lays them out, with rD = 3, rA = 4, rB = 21. -/
theorem test_decodeSystem : decodesAs [
    (0x20008001, .lSys 0x8001), (0x21008001, .lTrap 0x8001), (0x24000000, .lRfe), (0xB4648001, .lMfspr 3 4 0x8001),
    (0xC204A801, .lMtspr 4 21 0x8001), (0x22000000, .lMsync), (0x22800000, .lPsync), (0x23000000, .lCsync),
    (0xC404A801, .lMac 4 21), (0x4C048001, .lMaci 4 0x8001), (0xC404A803, .lMacu 4 21), (0xC404A802, .lMsb 4 21),
    (0xC404A804, .lMsbu 4 21), (0x18610000, .lMacrc 3), (0x70000000, .lCust1), (0x74000000, .lCust2),
    (0x78000000, .lCust3), (0x7C000000, .lCust4), (0xF064AC31, .lCust5 3 4 21 0x21 17), (0xF4000000, .lCust6),
    (0xF8000000, .lCust7), (0xFC000000, .lCust8)] = true := by decide +kernel

/-- The words of the family as the opcode table lays them out, with rD = 3, rA = 4, rB = 21. -/
theorem test_decodeFloatSingle : decodesAs [
    (0xC864A800, .lfAddS 3 4 21), (0xC864A801, .lfSubS 3 4 21), (0xC864A802, .lfMulS 3 4 21),
    (0xC864A803, .lfDivS 3 4 21), (0xC8640004, .lfItofS 3 4), (0xC8640005, .lfFtoiS 3 4), (0xC804A807, .lfMaddS 4 21),
    (0xC804A808, .lfSfeqS 4 21), (0xC804A809, .lfSfneS 4 21), (0xC804A80A, .lfSfgtS 4 21),
    (0xC804A80B, .lfSfgeS 4 21), (0xC804A80C, .lfSfltS 4 21), (0xC804A80D, .lfSfleS 4 21),
    (0xC804A828, .lfSfueqS 4 21), (0xC804A829, .lfSfuneS 4 21), (0xC804A82A, .lfSfugtS 4 21),
    (0xC804A82B, .lfSfugeS 4 21), (0xC804A82C, .lfSfultS 4 21), (0xC804A82D, .lfSfuleS 4 21),
    (0xC804A82E, .lfSfunS 4 21), (0xC804A8D0, .lfCust1S 4 21)] = true := by decide +kernel

/-- The words of the family as the opcode table lays them out, with rD = 3, rA = 4, rB = 21. -/
theorem test_decodeFloatDouble : decodesAs [
    (0xC864AD10, .lfAddD 3 4 21 1 0 1), (0xC864AD11, .lfSubD 3 4 21 1 0 1), (0xC864AD12, .lfMulD 3 4 21 1 0 1),
    (0xC864AD13, .lfDivD 3 4 21 1 0 1), (0xC8640414, .lfItofD 3 4 1 0), (0xC8640415, .lfFtoiD 3 4 1 0),
    (0xC8640434, .lfStodD 3 4 1), (0xC8640035, .lfDtosD 3 4 0), (0xC804A917, .lfMaddD 4 21 0 1),
    (0xC804A918, .lfSfeqD 4 21 0 1), (0xC804A919, .lfSfneD 4 21 0 1), (0xC804A91A, .lfSfgtD 4 21 0 1),
    (0xC804A91B, .lfSfgeD 4 21 0 1), (0xC804A91C, .lfSfltD 4 21 0 1), (0xC804A91D, .lfSfleD 4 21 0 1),
    (0xC804A938, .lfSfueqD 4 21 0 1), (0xC804A939, .lfSfuneD 4 21 0 1), (0xC804A93A, .lfSfugtD 4 21 0 1),
    (0xC804A93B, .lfSfugeD 4 21 0 1), (0xC804A93C, .lfSfultD 4 21 0 1), (0xC804A93D, .lfSfuleD 4 21 0 1),
    (0xC804A93E, .lfSfunD 4 21 0 1), (0xC804A8E0, .lfCust1D 4 21)] = true := by decide +kernel

/-- The words of the family as the opcode table lays them out, with rD = 3, rA = 4, rB = 21. -/
theorem test_decodeVectorA : decodesAs [
    (0x2864A830, .lvAddB 3 4 21), (0x2864A831, .lvAddH 3 4 21), (0x2864A832, .lvAddsB 3 4 21),
    (0x2864A833, .lvAddsH 3 4 21), (0x2864A834, .lvAdduB 3 4 21), (0x2864A835, .lvAdduH 3 4 21),
    (0x2864A836, .lvAddusB 3 4 21), (0x2864A837, .lvAddusH 3 4 21), (0x2864A810, .lvAllEqB 3 4 21),
    (0x2864A811, .lvAllEqH 3 4 21), (0x2864A812, .lvAllGeB 3 4 21), (0x2864A813, .lvAllGeH 3 4 21),
    (0x2864A814, .lvAllGtB 3 4 21), (0x2864A815, .lvAllGtH 3 4 21), (0x2864A816, .lvAllLeB 3 4 21),
    (0x2864A817, .lvAllLeH 3 4 21), (0x2864A818, .lvAllLtB 3 4 21), (0x2864A819, .lvAllLtH 3 4 21),
    (0x2864A81A, .lvAllNeB 3 4 21), (0x2864A81B, .lvAllNeH 3 4 21), (0x2864A838, .lvAnd 3 4 21),
    (0x2864A820, .lvAnyEqB 3 4 21), (0x2864A821, .lvAnyEqH 3 4 21), (0x2864A822, .lvAnyGeB 3 4 21),
    (0x2864A823, .lvAnyGeH 3 4 21), (0x2864A824, .lvAnyGtB 3 4 21), (0x2864A825, .lvAnyGtH 3 4 21),
    (0x2864A826, .lvAnyLeB 3 4 21), (0x2864A827, .lvAnyLeH 3 4 21), (0x2864A828, .lvAnyLtB 3 4 21),
    (0x2864A829, .lvAnyLtH 3 4 21), (0x2864A82A, .lvAnyNeB 3 4 21), (0x2864A82B, .lvAnyNeH 3 4 21),
    (0x2864A839, .lvAvgB 3 4 21), (0x2864A83A, .lvAvgH 3 4 21), (0x2864A840, .lvCmpEqB 3 4 21),
    (0x2864A841, .lvCmpEqH 3 4 21), (0x2864A842, .lvCmpGeB 3 4 21), (0x2864A843, .lvCmpGeH 3 4 21),
    (0x2864A844, .lvCmpGtB 3 4 21), (0x2864A845, .lvCmpGtH 3 4 21), (0x2864A846, .lvCmpLeB 3 4 21),
    (0x2864A847, .lvCmpLeH 3 4 21), (0x2864A848, .lvCmpLtB 3 4 21), (0x2864A849, .lvCmpLtH 3 4 21),
    (0x2864A84A, .lvCmpNeB 3 4 21), (0x2864A84B, .lvCmpNeH 3 4 21), (0x280000C0, .lvCust1), (0x280000D0, .lvCust2),
    (0x280000E0, .lvCust3), (0x280000F0, .lvCust4)] = true := by decide +kernel

/-- The words of the family as the opcode table lays them out, with rD = 3, rA = 4, rB = 21. -/
theorem test_decodeVectorB : decodesAs [
    (0x2864A854, .lvMaddsH 3 4 21), (0x2864A85B, .lvMsubsH 3 4 21), (0x2864A85C, .lvMulsH 3 4 21),
    (0x2864A855, .lvMaxB 3 4 21), (0x2864A856, .lvMaxH 3 4 21), (0x2864A859, .lvMinB 3 4 21),
    (0x2864A85A, .lvMinH 3 4 21), (0x2864A857, .lvMergeB 3 4 21), (0x2864A858, .lvMergeH 3 4 21),
    (0x2864A85D, .lvNand 3 4 21), (0x2864A85E, .lvNor 3 4 21), (0x2864A85F, .lvOr 3 4 21),
    (0x2864A87B, .lvXor 3 4 21), (0x2864A860, .lvPackB 3 4 21), (0x2864A861, .lvPackH 3 4 21),
    (0x2864A862, .lvPacksB 3 4 21), (0x2864A863, .lvPacksH 3 4 21), (0x2864A864, .lvPackusB 3 4 21),
    (0x2864A865, .lvPackusH 3 4 21), (0x2864A866, .lvPermN 3 4 21), (0x2864A879, .lvUnpackB 3 4 21),
    (0x2864A87A, .lvUnpackH 3 4 21), (0x2864A867, .lvRlB 3 4 21), (0x2864A868, .lvRlH 3 4 21),
    (0x2864A869, .lvSllB 3 4 21), (0x2864A86A, .lvSllH 3 4 21), (0x2864A86B, .lvSll 3 4 21),
    (0x2864A86C, .lvSrlB 3 4 21), (0x2864A86D, .lvSrlH 3 4 21), (0x2864A86E, .lvSraB 3 4 21),
    (0x2864A86F, .lvSraH 3 4 21), (0x2864A870, .lvSrl 3 4 21), (0x2864A871, .lvSubB 3 4 21),
    (0x2864A872, .lvSubH 3 4 21), (0x2864A873, .lvSubsB 3 4 21), (0x2864A874, .lvSubsH 3 4 21),
    (0x2864A875, .lvSubuB 3 4 21), (0x2864A876, .lvSubuH 3 4 21), (0x2864A877, .lvSubusB 3 4 21),
    (0x2864A878, .lvSubusH 3 4 21)] = true := by decide +kernel

/-- Words that no row of the table matches are refused by name: an unassigned major opcode, unassigned minor opcodes, a
wrong fixed bit of l.nop and of l.macrc, an unassigned compare, and a list that is not four bytes. -/
theorem test_decode_refused :
    decodeWord 0x1C000000 = .error (.unassignedMajor 0x07) ∧ decodeWord 0x28000000 = .error (.unassignedMinor 0x0A) ∧
    decodeWord 0xE0000007 = .error (.unassignedMinor 0x38) ∧ decodeWord 0xE4C00000 = .error (.unassignedMinor 0x39) ∧
    decodeWord 0x14000000 = .error (.unassignedMinor 0x05) ∧ decodeWord 0xC4000000 = .error (.unassignedMinor 0x31) ∧
    decode [0xE0, 0x64, 0x28] = .error .notFourBytes := by decide +kernel

/-- Bits that the table leaves reserved do not matter: l.add with bits 10 and 7-4 set (R321). -/
theorem test_decode_reservedBits : decodeWord 0xE06424F0 = .ok (.lAdd 3 4 4) := by decide +kernel

/-- A word of the table, its bytes in the order the hardware stores them. -/
theorem test_decodeTableWord : decodeTableWord 32 0x9C64FFFF = some (.lAddi 3 4 0xFFFF) := by decide +kernel

/-- The four bytes of a word lie most significant first (R202). -/
theorem test_bytesOfWord : bytesOfWord 0x9C64FFFE = [0x9C, 0x64, 0xFF, 0xFE] := by decide +kernel

/-- The default configuration with the multiply-accumulate unit. -/
def withMac : Config := { Platform.config with hasMac := true }
/-- The default configuration with the floating-point subsets of XLEN = 32. -/
def withFloat : Config := { Platform.config with orfpx32 := true, orfpx64a32 := true }
/-- A 64-bit configuration with the vector subset. -/
def withVector : Config := { Platform.config with xlen := .x64, orvdx64 := true, paBits := 35 }

/-- Illegal configurations are refused: a register count that is not 32 or 16, ORVDX64 or ORFPX64 on XLEN = 32, ORFPX64A32
on XLEN = 64, five ATB entries, HAS_CFG_REGS against VR[CFG], an OMPIC on an edge-triggered input. -/
theorem test_illegal_configurations :
    Config.legal Platform.config = true ∧ Config.legal Platform.full32 = true ∧ Config.legal Platform.full64 = true ∧
    Config.legal { Platform.config with ngpr := 24 } = false ∧
    Config.legal { Platform.config with orvdx64 := true } = false ∧
    Config.legal { Platform.config with orfpx64 := true } = false ∧
    Config.legal { Platform.full64 with orfpx64a32 := true } = false ∧
    Config.legal { Platform.full32 with dmmu := { Platform.fullMmu with nae := 5 } } = false ∧
    Config.legal { Platform.config with hasCfgRegs := true } = false ∧
    Config.legal { Platform.config with paBits := 35 } = false ∧
    Config.legal { Platform.full64 with paBits := 64 } = false ∧
    Config.legal { Platform.config with ompic := some { base := 0x98000000, irq := 1 }, picEdge := 2 } = false ∧
    Config.legal { Platform.full64 with paBits := 64, hasDmmu := false, hasImmu := false } = true := by decide +kernel

/-- The checks of a well-formed instruction refuse: a 64-bit load on XLEN = 32, an absent subset or unit, an instruction
the implementation left out, the atomics without them, a custom instruction, and a register it lacks, the second of a
pair too. -/
theorem test_ill_formed_instructions :
    Instr.wellFormed Platform.config (.lAdd 3 4 5) = true ∧
    Instr.wellFormed Platform.config (.lLd 3 4 0) = false ∧
    Instr.wellFormed Platform.config (.lfAddS 3 4 5) = false ∧
    Instr.wellFormed { Platform.config with orfpx32 := true } (.lfAddD 4 6 8 0 0 0) = false ∧
    Instr.wellFormed Platform.full32 (.lvAddB 3 4 5) = false ∧
    Instr.wellFormed Platform.config (.lMac 4 5) = false ∧
    Instr.wellFormed { Platform.config with class2Absent := [.lDiv] } (.lDiv 3 4 5) = false ∧
    Instr.wellFormed { Platform.config with atomics := false } (.lLwa 3 4 0) = false ∧
    Instr.wellFormed Platform.config .lCust1 = false ∧
    Instr.wellFormed { Platform.config with ngpr := 16 } (.lAdd 16 4 5) = false ∧
    Instr.wellFormed { Platform.full32 with ngpr := 16 } (.lfAddD 15 4 6 0 0 0) = false := by decide +kernel

/-- A custom instruction of a subset is illegal where the subset is absent, whatever else the implementation adds (R600,
R700). -/
theorem test_custom_gating :
    (∀ i ∈ ([.lvCust1, .lvCust2, .lvCust3, .lvCust4, .lfCust1S 4 5, .lfCust1D 4 5] : List Instr),
      Instr.wellFormed { Platform.config with customInsn := [.lvCust1, .lvCust2, .lvCust3, .lvCust4, .lfCust1S, .lfCust1D] } i =
        false) ∧
    (∀ i ∈ ([.lvCust1, .lfCust1S 4 5, .lfCust1D 4 5] : List Instr),
      Instr.wellFormed { Platform.full64 with customInsn := [.lvCust1, .lfCust1S, .lfCust1D] } i = true) ∧
    Instr.wellFormed { Platform.full64 with customInsn := [.lvCust1] } .lvCust2 = false := by decide +kernel

/-- A state after reset with some registers set, the pc at the vectors' 0x2000. -/
def cpu (c : Config) (rs : List (RegNo × Word)) : State :=
  rs.foldl (fun s r => s.setReg r.1 r.2) { State.resetOf c with pc := 0x2000 }

/-- The instruction has a next state with this property. -/
def runs (s : State) (i : Instr) (p : State → Bool) : Bool :=
  match exec i s with
  | .next t => p t
  | .fault _ | .refused _ => false

/-- The vectors' memory: eight bytes at 0x3000 (`spec/95_test_vectors.md`). -/
def withBytes (s : State) : State :=
  { s with mem := writeBytes s.mem (List.range' 0x3000 8) [0x80, 0x01, 0x02, 0x83, 0xFF, 0x7F, 0x00, 0x01] }

theorem test_A3_l_add :
    runs (cpu Platform.config [(4, 0x7FFFFFFF), (5, 0x00000001)]) (.lAdd 3 4 5)
      (fun t => t.reg 3 == 0x80000000 && !t.cy && t.ov && t.pc == 0x2004) = true := by
  decide +kernel

theorem test_A4_l_add :
    runs (cpu Platform.config [(4, 0x80000000), (5, 0x80000000)]) (.lAdd 3 4 5)
      (fun t => t.reg 3 == 0x00000000 && t.cy && t.ov && t.pc == 0x2004) = true := by
  decide +kernel

theorem test_A6_l_add :
    runs { cpu Platform.config [(4, 0x7FFFFFFF), (5, 0x00000001)] with sr := 0x9001 } (.lAdd 3 4 5)
      (fun t => t.reg 3 == 0x80000000 && !t.cy && t.ov && t.pc == 0x00000B00 && t.epcr.get 0 == 0x00002000
         && t.esr.get 0 == 0x00009801 && t.sr == 0x00009801) = true := by
  decide +kernel

theorem test_A7_l_addc :
    runs ((cpu Platform.config [(4, 0xFFFFFFFF), (5, 0x00000000)]).setCy true) (.lAddc 3 4 5)
      (fun t => t.reg 3 == 0x00000000 && t.cy && !t.ov && t.pc == 0x2004) = true := by
  decide +kernel

theorem test_A12_l_addi :
    runs (cpu Platform.config [(4, 0x7FFF8001)]) (.lAddi 3 4 0x7fff)
      (fun t => t.reg 3 == 0x80000000 && !t.cy && t.ov && t.pc == 0x2004) = true := by
  decide +kernel

theorem test_A14_l_addic :
    runs ((cpu Platform.config [(4, 0x00000000)]).setCy true) (.lAddic 3 4 0xffff)
      (fun t => t.reg 3 == 0x00000000 && t.cy && !t.ov && t.pc == 0x2004) = true := by
  decide +kernel

theorem test_A18_l_sub :
    runs (cpu Platform.config [(4, 0x00000000), (5, 0x80000000)]) (.lSub 3 4 5)
      (fun t => t.reg 3 == 0x80000000 && t.cy && t.ov && t.pc == 0x2004) = true := by
  decide +kernel

theorem test_A19_l_and :
    runs (cpu Platform.config [(4, 0xFF00FF00), (5, 0x0FF00FF0)]) (.lAnd 3 4 5)
      (fun t => t.reg 3 == 0x0F000F00 && t.pc == 0x2004) = true := by
  decide +kernel

theorem test_A20_l_andi :
    runs (cpu Platform.config [(4, 0x12345678)]) (.lAndi 3 4 0xffff)
      (fun t => t.reg 3 == 0x00005678 && t.pc == 0x2004) = true := by
  decide +kernel

theorem test_A21_l_or :
    runs (cpu Platform.config [(4, 0xFF00FF00), (5, 0x0FF00FF0)]) (.lOr 3 4 5)
      (fun t => t.reg 3 == 0xFFF0FFF0 && t.pc == 0x2004) = true := by
  decide +kernel

theorem test_A22_l_ori :
    runs (cpu Platform.config [(4, 0x12340000)]) (.lOri 3 4 0x8000)
      (fun t => t.reg 3 == 0x12348000 && t.pc == 0x2004) = true := by
  decide +kernel

theorem test_A23_l_xor :
    runs (cpu Platform.config [(4, 0xFF00FF00), (5, 0x0FF00FF0)]) (.lXor 3 4 5)
      (fun t => t.reg 3 == 0xF0F0F0F0 && t.pc == 0x2004) = true := by
  decide +kernel

theorem test_A24_l_xori :
    runs (cpu Platform.config [(4, 0x12345678)]) (.lXori 3 4 0xffff)
      (fun t => t.reg 3 == 0xEDCBA987 && t.pc == 0x2004) = true := by
  decide +kernel

theorem test_A26_l_movhi :
    runs (cpu Platform.config [(3, 0x12345678)]) (.lMovhi 3 0xffff)
      (fun t => t.reg 3 == 0xFFFF0000 && t.pc == 0x2004) = true := by
  decide +kernel

theorem test_A29_l_adrp :
    runs { cpu Platform.config [] with pc := 0x00004000 } (.lAdrp 3 0x7ffff)
      (fun t => t.reg 3 == 0x00002000 && t.pc == 0x00004004) = true := by
  decide +kernel

theorem test_A31_l_cmov :
    runs ((cpu Platform.config [(4, 0xAAAAAAAA), (5, 0x55555555)]).setF true) (.lCmov 3 4 5)
      (fun t => t.reg 3 == 0xAAAAAAAA && t.pc == 0x2004) = true := by
  decide +kernel

theorem test_A32_l_cmov :
    runs ((cpu Platform.config [(4, 0xAAAAAAAA), (5, 0x55555555)]).setF false) (.lCmov 3 4 5)
      (fun t => t.reg 3 == 0x55555555 && t.pc == 0x2004) = true := by
  decide +kernel

theorem test_A35_l_sll :
    runs (cpu Platform.config [(4, 0x00000001), (5, 0xFFFFFFFF)]) (.lSll 3 4 5)
      (fun t => t.reg 3 == 0x80000000 && t.pc == 0x2004) = true := by
  decide +kernel

theorem test_A37_l_slli :
    runs (cpu Platform.config [(4, 0x00000003)]) (.lSlli 3 4 0x20)
      (fun t => t.reg 3 == 0x00000003 && t.pc == 0x2004) = true := by
  decide +kernel

theorem test_A38_l_srl :
    runs (cpu Platform.config [(4, 0x80000000), (5, 0x0000001F)]) (.lSrl 3 4 5)
      (fun t => t.reg 3 == 0x00000001 && t.pc == 0x2004) = true := by
  decide +kernel

theorem test_A39_l_srli :
    runs (cpu Platform.config [(4, 0xF0000000)]) (.lSrli 3 4 4)
      (fun t => t.reg 3 == 0x0F000000 && t.pc == 0x2004) = true := by
  decide +kernel

theorem test_A40_l_sra :
    runs (cpu Platform.config [(4, 0x80000000), (5, 0x0000001F)]) (.lSra 3 4 5)
      (fun t => t.reg 3 == 0xFFFFFFFF && t.pc == 0x2004) = true := by
  decide +kernel

theorem test_A41_l_srai :
    runs (cpu Platform.config [(4, 0xF0000000)]) (.lSrai 3 4 4)
      (fun t => t.reg 3 == 0xFF000000 && t.pc == 0x2004) = true := by
  decide +kernel

theorem test_A43_l_ror :
    runs (cpu Platform.config [(4, 0x00000001), (5, 0x00000001)]) (.lRor 3 4 5)
      (fun t => t.reg 3 == 0x80000000 && t.pc == 0x2004) = true := by
  decide +kernel

theorem test_A44_l_rori :
    runs (cpu Platform.config [(4, 0x12345678)]) (.lRori 3 4 8)
      (fun t => t.reg 3 == 0x78123456 && t.pc == 0x2004) = true := by
  decide +kernel

theorem test_A48_l_mul :
    runs (cpu Platform.config [(4, 0x00010000), (5, 0x00008000)]) (.lMul 3 4 5)
      (fun t => t.reg 3 == 0x80000000 && !t.cy && t.ov && t.pc == 0x2004) = true := by
  decide +kernel

theorem test_A50_l_muli :
    runs (cpu Platform.config [(4, 0x00000003)]) (.lMuli 3 4 0xfffe)
      (fun t => t.reg 3 == 0xFFFFFFFA && !t.ov && t.pc == 0x2004) = true := by
  decide +kernel

theorem test_A52_l_mulu :
    runs (cpu Platform.config [(4, 0x0000FFFF), (5, 0x00010001)]) (.lMulu 3 4 5)
      (fun t => t.reg 3 == 0xFFFFFFFF && !t.cy && !t.ov && t.pc == 0x2004) = true := by
  decide +kernel

theorem test_A53_l_muld :
    runs { cpu withMac [(4, 0xFFFFFFFF), (5, 0x00000002)] with machi := 0x11111111, maclo := 0x22222222 } (.lMuld 4 5)
      (fun t => !t.cy && !t.ov && t.mac == 0xFFFFFFFFFFFFFFFE && t.pc == 0x2004) = true := by
  decide +kernel

theorem test_A54_l_muldu :
    runs { cpu withMac [(4, 0xFFFFFFFF), (5, 0x00000002)]
        with machi := 0x00000000, maclo := 0x00000000 } (.lMuldu 4 5)
      (fun t => !t.cy && !t.ov && t.mac == 0x00000001FFFFFFFE && t.pc == 0x2004) = true := by
  decide +kernel

theorem test_A57_l_div :
    runs (cpu Platform.config [(4, 0xFFFFFFF9), (5, 0x00000002)]) (.lDiv 3 4 5)
      (fun t => t.reg 3 == 0xFFFFFFFD && !t.ov && t.pc == 0x2004) = true := by
  decide +kernel

theorem test_A58_l_div :
    runs (cpu Platform.config [(4, 0x00000007), (5, 0xFFFFFFFE)]) (.lDiv 3 4 5)
      (fun t => t.reg 3 == 0xFFFFFFFD && !t.ov && t.pc == 0x2004) = true := by
  decide +kernel

theorem test_A62_l_divu :
    runs (cpu Platform.config [(4, 0xFFFFFFF9), (5, 0x00000002)]) (.lDivu 3 4 5)
      (fun t => t.reg 3 == 0x7FFFFFFC && !t.cy && !t.ov && t.pc == 0x2004) = true := by
  decide +kernel

theorem test_A64_l_extbs :
    runs (cpu Platform.config [(4, 0x12345680)]) (.lExtbs 3 4)
      (fun t => t.reg 3 == 0xFFFFFF80 && t.pc == 0x2004) = true := by
  decide +kernel

theorem test_A65_l_extbz :
    runs (cpu Platform.config [(4, 0x12345680)]) (.lExtbz 3 4)
      (fun t => t.reg 3 == 0x00000080 && t.pc == 0x2004) = true := by
  decide +kernel

theorem test_A66_l_exths :
    runs (cpu Platform.config [(4, 0x12348000)]) (.lExths 3 4)
      (fun t => t.reg 3 == 0xFFFF8000 && t.pc == 0x2004) = true := by
  decide +kernel

theorem test_A67_l_exthz :
    runs (cpu Platform.config [(4, 0x12348000)]) (.lExthz 3 4)
      (fun t => t.reg 3 == 0x00008000 && t.pc == 0x2004) = true := by
  decide +kernel

theorem test_A68_l_extws :
    runs (cpu Platform.config [(4, 0x80000000)]) (.lExtws 3 4)
      (fun t => t.reg 3 == 0x80000000 && t.pc == 0x2004) = true := by
  decide +kernel

theorem test_A69_l_extwz :
    runs (cpu Platform.config [(4, 0x80000000)]) (.lExtwz 3 4)
      (fun t => t.reg 3 == 0x80000000 && t.pc == 0x2004) = true := by
  decide +kernel

theorem test_A73_l_ff1 :
    runs (cpu Platform.config [(4, 0x00F0F000)]) (.lFf1 3 4)
      (fun t => t.reg 3 == 0x0000000D && t.pc == 0x2004) = true := by
  decide +kernel

theorem test_A77_l_fl1 :
    runs (cpu Platform.config [(4, 0x00F0F000)]) (.lFl1 3 4)
      (fun t => t.reg 3 == 0x00000018 && t.pc == 0x2004) = true := by
  decide +kernel

theorem test_M2_l_lbs :
    runs (withBytes (cpu Platform.config [(4, 0x00003000)])) (.lLbs 3 4 0)
      (fun t => t.reg 3 == 0xFFFFFF80 && t.pc == 0x2004) = true := by
  decide +kernel

theorem test_M4_l_lbs :
    runs (withBytes (cpu Platform.config [(4, 0x00003006)])) (.lLbs 3 4 0xffff)
      (fun t => t.reg 3 == 0x0000007F && t.pc == 0x2004) = true := by
  decide +kernel

theorem test_M5_l_lhz :
    runs (withBytes (cpu Platform.config [(4, 0x00003000)])) (.lLhz 3 4 0)
      (fun t => t.reg 3 == 0x00008001 && t.pc == 0x2004) = true := by
  decide +kernel

theorem test_M6_l_lhs :
    runs (withBytes (cpu Platform.config [(4, 0x00003000)])) (.lLhs 3 4 0)
      (fun t => t.reg 3 == 0xFFFF8001 && t.pc == 0x2004) = true := by
  decide +kernel

theorem test_M11_l_lwz :
    runs (withBytes (cpu Platform.config [(4, 0x0000B000)])) (.lLwz 3 4 0x8000)
      (fun t => t.reg 3 == 0x80010283 && t.pc == 0x2004) = true := by
  decide +kernel

theorem test_M10_l_lws :
    runs (withBytes (cpu Platform.config [(4, 0x00003000)])) (.lLws 3 4 4)
      (fun t => t.reg 3 == 0xFF7F0001 && t.pc == 0x2004) = true := by
  decide +kernel

theorem test_M12_l_lf :
    runs (withBytes (cpu Platform.config [(4, 0x00003000)])) (.lLf 3 4 0)
      (fun t => t.reg 3 == 0x80010283 && t.pc == 0x2004) = true := by
  decide +kernel

theorem test_M13_l_lwa :
    runs (withBytes (cpu Platform.config [(4, 0x00003000)])) (.lLwa 3 4 4)
      (fun t => t.reg 3 == 0xFF7F0001 && t.resv == some (0x00003004) && t.pc == 0x2004) = true := by
  decide +kernel

theorem test_M14_l_lhz :
    runs (withBytes (cpu Platform.config [(3, 0x11111111), (4, 0x00003000)])) (.lLhz 3 4 1)
      (fun t => t.epcr.get 0 == 0x00002000 && t.eear.get 0 == 0x00003001 && t.esr.get 0 == 0x00008001
         && t.sr == 0x00008001) = true := by
  decide +kernel

theorem test_M16_l_sb :
    runs (withBytes (cpu Platform.config [(4, 0x00003000), (5, 0x123456AB)])) (.lSb 4 5 1)
      (fun t => readByte t.mem 0x3001 == 0xAB && t.pc == 0x2004) = true := by
  decide +kernel

theorem test_M17_l_sh :
    runs (withBytes (cpu Platform.config [(4, 0x00003000), (5, 0x1234ABCD)])) (.lSh 4 5 2)
      (fun t => readByte t.mem 0x3002 == 0xAB && readByte t.mem 0x3003 == 0xCD && t.pc == 0x2004) = true := by
  decide +kernel

theorem test_M19_l_sw :
    runs (withBytes (cpu Platform.config [(4, 0x00003808), (5, 0xCAFEBABE)])) (.lSw 4 5 0xf800)
      (fun t => readByte t.mem 0x3008 == 0xCA && readByte t.mem 0x3009 == 0xFE
         && readByte t.mem 0x300A == 0xBA && readByte t.mem 0x300B == 0xBE && t.pc == 0x2004) = true := by
  decide +kernel

theorem test_X1_l_j :
    runs { cpu Platform.config [] with pc := 0x2000 } (.lJ 4)
      (fun t => t.pc == 0x2004 && t.ds == some (0x2010)) = true := by
  decide +kernel

theorem test_X6_l_jr :
    runs { cpu Platform.config [(5, 0x4000)] with pc := 0x2000 } (.lJr 5)
      (fun t => t.ds == some 0x4000 && t.pc == 0x2004) = true := by
  decide +kernel

theorem test_X7_l_jalr :
    runs { cpu Platform.config [(5, 0x4000)] with pc := 0x2000 } (.lJalr 5)
      (fun t => t.ds == some 0x4000 && t.reg 9 == 0x2008) = true := by
  decide +kernel

theorem test_X8_l_bf :
    runs { cpu Platform.config [] with pc := 0x2000, sr := 0x8201 } (.lBf 8)
      (fun t => t.ds == some 0x2020) = true := by
  decide +kernel

theorem test_X9_l_bf :
    runs { cpu Platform.config [] with pc := 0x2000, sr := 0x8001 } (.lBf 8)
      (fun t => t.ds == some 0x2008) = true := by
  decide +kernel

theorem test_X10_l_bnf :
    runs { cpu Platform.config [] with pc := 0x2000, sr := 0x8001 } (.lBnf 0x3fffffc)
      (fun t => t.ds == some 0x1FF0) = true := by
  decide +kernel

theorem test_X17_l_sys :
    runs { cpu Platform.config [] with pc := 0x2000, sr := 0x8007, eear := Bank.replicate 4 0x1234 } (.lSys 7)
      (fun t => t.pc == 0xC00 && t.epcr.get 0 == 0x2004 && t.esr.get 0 == 0x8007 && t.sr == 0x8001
         && t.eear.get 0 == 0x1234) = true := by
  decide +kernel

theorem test_X18_l_trap :
    runs { cpu Platform.config [] with pc := 0x2000, sr := 0x8001 } (.lTrap 0)
      (fun t => t.pc == 0xE00 && t.epcr.get 0 == 0x2000 && t.esr.get 0 == 0x8001 && t.sr == 0x8001) = true := by
  decide +kernel

theorem test_X20_l_sys :
    runs { cpu Platform.config [] with pc := 0x2000, sr := 0xC001 } (.lSys 0)
      (fun t => t.pc == 0xF0000C00 && t.epcr.get 0 == 0x2004 && t.esr.get 0 == 0xC001 && t.sr == 0xC001) = true := by
  decide +kernel

theorem test_X27_l_rfe :
    runs { cpu Platform.config []
        with pc := 0x2000, sr := 0x8000, epcr := Bank.replicate 4 0x5000, esr := Bank.replicate 4 0x8001 } (.lRfe)
      (fun t => t.pc == 0x700 && t.sr == 0x8001 && t.epcr.get 0 == 0x2000 && t.esr.get 0 == 0x8000
         && t.eear.get 0 == 0x2000) = true := by
  decide +kernel

theorem test_X28_l_rfe :
    runs { cpu Platform.config []
        with pc := 0x2000, sr := 0x8001, epcr := Bank.replicate 4 0x5000, esr := Bank.replicate 4 0x8206, resv := some (0x3000) }
      (.lRfe)
      (fun t => t.pc == 0x5000 && t.sr == 0x8206 && t.epcr.get 0 == 0x5000 && t.esr.get 0 == 0x8206
         && t.resv == some (0x3000)) = true := by
  decide +kernel

theorem test_X30_l_mfspr :
    runs { cpu Platform.config [(4, 0x0)] with sr := 0x8201 } (.lMfspr 3 4 0x11)
      (fun t => t.reg 3 == 0x8201) = true := by
  decide +kernel

theorem test_X31_l_mfspr :
    runs { cpu Platform.config [(4, 0x10)] with sr := 0x8201 } (.lMfspr 3 4 1)
      (fun t => t.reg 3 == 0x8201) = true := by
  decide +kernel

theorem test_X36_l_mtspr :
    runs { cpu Platform.config [(5, 0xFFFFFFFF)] with sr := 0x8001 } (.lMtspr 0 5 0x11)
      (fun t => t.sr == 0x1FE07) = true := by
  decide +kernel

theorem test_X40_l_msync :
    runs { cpu Platform.config [] with pc := 0x2000 } (.lMsync)
      (fun t => t.pc == 0x2004) = true := by
  decide +kernel

theorem test_X41_l_psync :
    runs { cpu Platform.config [] with pc := 0x2000 } (.lPsync)
      (fun t => t.pc == 0x2004) = true := by
  decide +kernel

theorem test_X42_l_csync :
    runs { cpu Platform.config [] with pc := 0x2000 } (.lCsync)
      (fun t => t.pc == 0x2004) = true := by
  decide +kernel

theorem test_X43_l_nop :
    runs { cpu Platform.config [] with pc := 0x2000 } (.lNop 0x1234)
      (fun t => t.pc == 0x2004) = true := by
  decide +kernel

theorem test_X44_l_lwz :
    runs { withBytes (cpu Platform.config [(3, 0x55), (4, 0x3000)]) with resv := some (0x3000) } (.lLwz 3 4 2)
      (fun t => t.pc == 0x600 && t.epcr.get 0 == 0x2000 && t.eear.get 0 == 0x3002 && t.reg 3 == 0x55
         && t.resv == none) = true := by
  decide +kernel

theorem test_S2_l_mac :
    runs { cpu withMac [(4, 0x7FFFFFFF), (5, 0x7FFFFFFF)] with machi := 0x7FFFFFFF, maclo := 0xFFFFFFFF } (.lMac 4 5)
      (fun t => t.ov && t.mac == 0xBFFFFFFF00000000 && t.pc == 0x2004) = true := by
  decide +kernel

theorem test_S4_l_mac :
    runs { cpu withMac [(4, 0x7FFFFFFF), (5, 0x7FFFFFFF)]
        with sr := 0x9001, machi := 0x7FFFFFFF, maclo := 0xFFFFFFFF } (.lMac 4 5)
      (fun t => t.ov && t.mac == 0xBFFFFFFF00000000 && t.pc == 0x00000B00 && t.epcr.get 0 == 0x00002000
         && t.esr.get 0 == 0x00009801 && t.sr == 0x00009801) = true := by
  decide +kernel

theorem test_S6_l_maci :
    runs { cpu withMac [(4, 0xFFFFFFFE)] with machi := 0x00000000, maclo := 0x00000001 } (.lMaci 4 0x7fff)
      (fun t => !t.ov && t.mac == 0xFFFFFFFFFFFF0003 && t.pc == 0x2004) = true := by
  decide +kernel

theorem test_S8_l_macu :
    runs { cpu withMac [(4, 0xFFFFFFFF), (5, 0xFFFFFFFF)] with machi := 0x00000001, maclo := 0xFFFFFFFF } (.lMacu 4 5)
      (fun t => t.cy && !t.ov && t.mac == 0x0000000000000000 && t.pc == 0x2004) = true := by
  decide +kernel

theorem test_S10_l_msb :
    runs { cpu withMac [(4, 0x00000001), (5, 0x00000001)] with machi := 0x80000000, maclo := 0x00000000 } (.lMsb 4 5)
      (fun t => t.ov && t.mac == 0x7FFFFFFFFFFFFFFF && t.pc == 0x2004) = true := by
  decide +kernel

theorem test_S11_l_msbu :
    runs { cpu withMac [(4, 0x00000003), (5, 0x00000004)] with machi := 0x00000000, maclo := 0x0000000A } (.lMsbu 4 5)
      (fun t => t.cy && t.mac == 0xFFFFFFFFFFFFFFFE && t.pc == 0x2004) = true := by
  decide +kernel

theorem test_S13_l_macrc :
    runs { cpu withMac [] with machi := 0x12345678, maclo := 0x9ABCDEF0 } (.lMacrc 3)
      (fun t => t.reg 3 == 0x9ABCDEF0 && t.mac == 0x0000000000000000 && t.pc == 0x2004) = true := by
  decide +kernel

theorem test_S14_l_mac :
    runs (cpu Platform.config [(4, 0x00000003), (5, 0x00000004)]) (.lMac 4 5)
      (fun t => t.pc == 0x00000700 && t.epcr.get 0 == 0x00002000 && t.esr.get 0 == 0x00008001
         && t.sr == 0x00008001 && t.eear.get 0 == 0x00002000) = true := by
  decide +kernel

theorem test_F5_lf_add_s :
    runs { cpu withFloat [(4, 0x3F800000), (5, 0x33800000)] with fpcsr := 0x004 } (.lfAddS 3 4 5)
      (fun t => t.reg 3 == 0x3F800001 && t.fpcsr == 0x104) = true := by
  decide +kernel

theorem test_F14_lf_sub_s :
    runs { cpu withFloat [(4, 0x3F800000), (5, 0x3F800000)] with fpcsr := 0x006 } (.lfSubS 3 4 5)
      (fun t => t.reg 3 == 0x80000000 && t.fpcsr == 0x086) = true := by
  decide +kernel

theorem test_F20_lf_mul_s :
    runs { cpu withFloat [(4, 0x00000001), (5, 0x3F000000)] with fpcsr := 0x000 } (.lfMulS 3 4 5)
      (fun t => t.reg 3 == 0x00000000 && t.fpcsr == 0x190) = true := by
  decide +kernel

theorem test_F23_lf_div_s :
    runs { cpu withFloat [(4, 0x3F800000), (5, 0x00000000)] with fpcsr := 0x000 } (.lfDivS 3 4 5)
      (fun t => t.reg 3 == 0x7F800000 && t.fpcsr == 0xC00) = true := by
  decide +kernel

theorem test_G5_lf_itof_s :
    runs { cpu withFloat [(4, 0x01000001)] with fpcsr := 0x004 } (.lfItofS 3 4)
      (fun t => t.reg 3 == 0x4B800001 && t.fpcsr == 0x104) = true := by
  decide +kernel

theorem test_G9_lf_ftoi_s :
    runs { cpu withFloat [(4, 0xC0200000)] with fpcsr := 0x004 } (.lfFtoiS 3 4)
      (fun t => t.reg 3 == 0xFFFFFFFE && t.fpcsr == 0x104) = true := by
  decide +kernel

theorem test_G18_lf_madd_s :
    runs { cpu withFloat [(4, 0x3F800001), (5, 0x3F800001)]
        with fpmaddlo := 0xBF800002, fpcsr := 0x000 } (.lfMaddS 4 5)
      (fun t => t.fpmaddlo == 0x28800000 && t.fpcsr == 0x000) = true := by
  decide +kernel

theorem test_Q1_lf_div_s :
    runs { cpu withFloat [(4, 0x3F800000), (5, 0x00000000)]
        with fpcsr := 0x001, sr := 0x00008001, eear := Bank.replicate 4 0x00001234 } (.lfDivS 3 4 5)
      (fun t => t.reg 3 == 0x7F800000 && t.fpcsr == 0xC01 && t.pc == 0x00000D00
         && t.epcr.get 0 == 0x00002004 && t.esr.get 0 == 0x00008001 && t.sr == 0x00008001
         && t.eear.get 0 == 0x00001234) = true := by
  decide +kernel

theorem test_K3_lf_add_d :
    runs (cpu withFloat [(20, 0x3FF00000), (22, 0x00000000), (24, 0x40000000), (25,
         0x00000000)]) (.lfAddD 16 20 24 0 1 0)
      (fun t => t.reg 16 == 0x40080000 && t.reg 17 == 0x00000000 && t.fpcsr == 0x0) = true := by
  decide +kernel

theorem test_K5_lf_sub_d :
    runs (cpu withFloat [(6, 0x3FF00000), (7, 0x00000000), (8, 0x3FF00000), (9, 0x00000000)]) (.lfSubD 4 6 8 0 0 0)
      (fun t => t.reg 4 == 0x00000000 && t.reg 5 == 0x00000000 && t.fpcsr == 0x80) = true := by
  decide +kernel

theorem test_K9_lf_mul_d :
    runs (cpu withFloat [(6, 0x7FEFFFFF), (7, 0xFFFFFFFF), (8, 0x40000000), (9, 0x00000000)]) (.lfMulD 4 6 8 0 0 0)
      (fun t => t.reg 4 == 0x7FF00000 && t.reg 5 == 0x00000000 && t.fpcsr == 0x508) = true := by
  decide +kernel

theorem test_K7_lf_div_d :
    runs (cpu withFloat [(6, 0x3FF00000), (7, 0x00000000), (8, 0x40080000), (9, 0x00000000)]) (.lfDivD 4 6 8 0 0 0)
      (fun t => t.reg 4 == 0x3FD55555 && t.reg 5 == 0x55555555 && t.fpcsr == 0x100) = true := by
  decide +kernel

theorem test_K12_lf_itof_d :
    runs (cpu withFloat [(6, 0x00200000), (7, 0x00000001)]) (.lfItofD 4 6 0 0)
      (fun t => t.reg 4 == 0x43400000 && t.reg 5 == 0x00000000 && t.fpcsr == 0x100) = true := by
  decide +kernel

theorem test_K14_lf_ftoi_d :
    runs (cpu withFloat [(6, 0x40040000), (7, 0x00000000)]) (.lfFtoiD 4 6 0 0)
      (fun t => t.reg 4 == 0x00000000 && t.reg 5 == 0x00000002 && t.fpcsr == 0x100) = true := by
  decide +kernel

theorem test_K19_lf_stod_d :
    runs (cpu withFloat [(6, 0x00000001)]) (.lfStodD 4 6 0)
      (fun t => t.reg 4 == 0x36A00000 && t.reg 5 == 0x00000000 && t.fpcsr == 0x0) = true := by
  decide +kernel

theorem test_K25_lf_dtos_d :
    runs (cpu withFloat [(6, 0x47F00000), (7, 0x00000000)]) (.lfDtosD 4 6 0)
      (fun t => t.reg 4 == 0x7F800000 && t.fpcsr == 0x508) = true := by
  decide +kernel

theorem test_K34_lf_madd_d :
    runs { cpu withFloat [(6, 0x40000000), (7, 0), (8, 0x40080000), (9, 0)]
        with fpmaddhi := 0x3FF00000, fpmaddlo := 0 } (.lfMaddD 6 8 0 0)
      (fun t => t.fpmaddhi == 0x401C0000 && t.fpmaddlo == 0x00000000 && t.fpcsr == 0x0) = true := by
  decide +kernel

theorem test_V13_lv_sub_h :
    runs (cpu withVector [(4, 0x7FFF8000FFFF1234), (5, 0x00018000FFFFF000)]) (.lvSubH 3 4 5)
      (fun t => t.reg 3 == 0x7FFE000000002234) = true := by
  decide +kernel

theorem test_V14_lv_subu_h :
    runs (cpu withVector [(4, 0x7FFF8000FFFF1234), (5, 0x00018000FFFFF000)]) (.lvSubuH 3 4 5)
      (fun t => t.reg 3 == 0x7FFE000000002234) = true := by
  decide +kernel

theorem test_V18_lv_subus_h :
    runs (cpu withVector [(4, 0x0001FFFF00008000), (5, 0x0002000100007FFF)]) (.lvSubusH 3 4 5)
      (fun t => t.reg 3 == 0x0000FFFE00000001) = true := by
  decide +kernel

theorem test_V24_lv_avg_b :
    runs (cpu withVector [(4, 0x7F80FF0110F0807F), (5, 0x0180FF01F0207F80)]) (.lvAvgB 3 4 5)
      (fun t => t.reg 3 == 0x4080FF010008FFFF) = true := by
  decide +kernel

theorem test_V30_lv_min_h :
    runs (cpu withVector [(4, 0x7FFF8000FFFF1234), (5, 0x00018000FFFFF000)]) (.lvMinH 3 4 5)
      (fun t => t.reg 3 == 0x00018000FFFFF000) = true := by
  decide +kernel

theorem test_V83_lv_pack_h :
    runs (cpu withVector [(4, 0xA7A6A5A4A3A2A1A0), (5, 0xB7B6B5B4B3B2B1B0)]) (.lvPackH 3 4 5)
      (fun t => t.reg 3 == 0xA6A4A2A0B6B4B2B0) = true := by
  decide +kernel

theorem test_V84_lv_packs_b :
    runs (cpu withVector [(4, 0x7F80FF0007F808F7), (5, 0x0001020708090A10)]) (.lvPacksB 3 4 5)
      (fun t => t.reg 3 == 0x78F0787801277777) = true := by
  decide +kernel

theorem test_V85_lv_packus_b :
    runs (cpu withVector [(4, 0x7F80FF0007F808F7), (5, 0x0001020F10090A10)]) (.lvPackusB 3 4 5)
      (fun t => t.reg 3 == 0xFFF07F8F012FF9AF) = true := by
  decide +kernel

theorem test_V89_lv_unpack_h :
    runs (cpu withVector [(4, 0xDEADBEEF807FFF01), (5, 0x5555555555555555)]) (.lvUnpackH 3 4 5)
      (fun t => t.reg 3 == 0xFF80007FFFFF0001) = true := by
  decide +kernel

theorem test_V90_lv_perm_n :
    runs (cpu withVector [(4, 0xFEDCBA9876543210), (5, 0x0123456789ABCDEF)]) (.lvPermN 3 4 5)
      (fun t => t.reg 3 == 0x0123456789ABCDEF) = true := by
  decide +kernel

theorem test_V96_lv_sra_b :
    runs (cpu withVector [(4, 0x81FF0180F00F55AA), (5, 0x0108040701FC0903)]) (.lvSraB 3 4 5)
      (fun t => t.reg 3 == 0xC0FF00FFF8002AF5) = true := by
  decide +kernel

theorem test_V97_lv_rl_h :
    runs (cpu withVector [(4, 0x8001FFFF12348000), (5, 0x0001001000F4000F)]) (.lvRlH 3 4 5)
      (fun t => t.reg 3 == 0x0003FFFF23414000) = true := by
  decide +kernel

theorem test_V101_lv_sll :
    runs (cpu withVector [(4, 0x8000000000FF0081), (5, 0xFFFFFFFFFFFFFF0F)]) (.lvSll 3 4 5)
      (fun t => t.reg 3 == 0x000000007F804080) = true := by
  decide +kernel

theorem test_V102_lv_srl :
    runs (cpu withVector [(4, 0x8000000000FF0081), (5, 0x0000000000000009)]) (.lvSrl 3 4 5)
      (fun t => t.reg 3 == 0x40000000007F8040) = true := by
  decide +kernel

theorem test_V105_lv_muls_h :
    runs (cpu withVector [(4, 0x8000000300B5FF4B), (5, 0x8000FFFE00B500B5)]) (.lvMulsH 3 4 5)
      (fun t => t.reg 3 == 0x7FFFFFFA7FF98007) = true := by
  decide +kernel

theorem test_V107_lv_madds_h :
    runs { cpu withVector [(4, 0x7FFF8000FFFF0002), (5, 0x7FFF7FFF00010003)]
        with vmaclo := 0x000000017FFFFFFF, vmachi := 0x7FFFFFFF80000000 } (.lvMaddsH 3 4 5)
      (fun t => t.reg 3 == 0xFFFF00000000FFFF && t.vmaclo == 0x000000007FFFFFFF
         && t.vmachi == 0x7FFFFFFF80000000) = true := by
  decide +kernel

theorem test_V109_lv_msubs_h :
    runs { cpu withVector [(4, 0x7FFF8000FFFF0002), (5, 0x7FFF7FFF00010003)]
        with vmaclo := 0xFFFFFFFF80000000, vmachi := 0x800000007FFFFFFF } (.lvMsubsH 3 4 5)
      (fun t => t.reg 3 == 0x0000FFFF00000000 && t.vmaclo == 0x0000000080000000
         && t.vmachi == 0x800000007FFFFFFF) = true := by
  decide +kernel

/-- Vectors C1 to C40: every compare, its operands and SR[F]. -/
theorem test_C_compares : ([
    (.lSfeq 4 5, 0xFFFFFFFF, 0x00000001, false), (.lSfne 4 5, 0xFFFFFFFF, 0x00000001, true),
    (.lSfgtu 4 5, 0xFFFFFFFF, 0x00000001, true), (.lSfgeu 4 5, 0x00000001, 0xFFFFFFFF, false),
    (.lSfltu 4 5, 0x00000001, 0xFFFFFFFF, true), (.lSfleu 4 5, 0xFFFFFFFF, 0x00000001, false),
    (.lSfgts 4 5, 0x00000001, 0xFFFFFFFF, true), (.lSfges 4 5, 0xFFFFFFFF, 0x00000001, false),
    (.lSflts 4 5, 0xFFFFFFFF, 0x00000001, true), (.lSfles 4 5, 0x00000005, 0x00000005, true),
    (.lSfeqi 4 0xffff, 0xFFFFFFFF, 0xFFFFFFFF, true), (.lSfnei 4 0xffff, 0x0000FFFF, 0xFFFFFFFF, true),
    (.lSfgtui 4 0xfffe, 0xFFFFFFFF, 0xFFFFFFFE, true), (.lSfgeui 4 0xffff, 0xFFFFFFFF, 0xFFFFFFFF, true),
    (.lSfltui 4 0x8000, 0x7FFFFFFF, 0xFFFF8000, true), (.lSfleui 4 0, 0x00000000, 0x00000000, true),
    (.lSfgtsi 4 0xffff, 0x00000000, 0xFFFFFFFF, true), (.lSfgesi 4 0x8000, 0x80000000, 0xFFFF8000, false),
    (.lSfltsi 4 0x8000, 0x80000000, 0xFFFF8000, true), (.lSflesi 4 0x7fff, 0x00007FFF, 0x00007FFF, true)] : List (Instr × Word × Word × Bool)).all
    (fun p => runs (cpu Platform.config [(4, p.2.1), (5, p.2.2.1)]) p.1 fun t => t.flag == p.2.2.2) = true := by
  decide +kernel

/-- Vectors H2 to H27: every single-precision compare, its operands, SR[F] and FPCSR. -/
theorem test_H_float_compares : ([
    (.lfSfeqS 4 5, 0x7FC00000, 0x7FC00000, false, 0x0), (.lfSfneS 4 5, 0x7FC00000, 0x3F800000, true, 0x0),
    (.lfSfgtS 4 5, 0x7F800000, 0x3F800000, true, 0x400), (.lfSfgeS 4 5, 0x3F800000, 0x3F800000, true, 0x0),
    (.lfSfltS 4 5, 0xBF800000, 0x3F800000, true, 0x0), (.lfSfleS 4 5, 0x3F800000, 0x7FC00000, false, 0x200),
    (.lfSfueqS 4 5, 0x7FC00000, 0x3F800000, true, 0x0), (.lfSfuneS 4 5, 0x7FA00000, 0x3F800000, true, 0x0),
    (.lfSfugtS 4 5, 0x3F800000, 0x40000000, false, 0x0), (.lfSfugeS 4 5, 0x40000000, 0x40000000, true, 0x0),
    (.lfSfultS 4 5, 0x7FA00000, 0x3F800000, true, 0x0), (.lfSfuleS 4 5, 0x7F800000, 0x7FC00000, true, 0x400),
    (.lfSfunS 4 5, 0x7F800000, 0x3F800000, false, 0x400)] : List (Instr × Word × Word × Bool × Word32)).all
    (fun p => runs (cpu withFloat [(4, p.2.1), (5, p.2.2.1)]) p.1 fun t => t.flag == p.2.2.2.1 && t.fpcsr == p.2.2.2.2) = true := by
  decide +kernel

/-- Vectors V32 to V79: every element compare, its operands, SR[F] before, and rD and SR[F] after. -/
theorem test_V_compares : ([
    (.lvAllEqB 3 4 5, 0x0102030405060708, 0x0102030405060708, false, 0xFFFFFFFFFFFFFFFF, true),
    (.lvAnyEqB 3 4 5, 0x0102030405060708, 0x0102030405060708, true, 0xFFFFFFFFFFFFFFFF, true),
    (.lvCmpEqB 3 4 5, 0x80027F04FF060709, 0x0102030405060708, true, 0x00FF00FF00FFFF00, true),
    (.lvAllNeB 3 4 5, 0x0102030405060708, 0x0102030405060708, true, 0x0000000000000000, false),
    (.lvAnyNeB 3 4 5, 0x0102030405060708, 0x0102030405060708, false, 0x0000000000000000, false),
    (.lvCmpNeB 3 4 5, 0x80027F04FF060709, 0x0102030405060708, true, 0xFF00FF00FF0000FF, true),
    (.lvAllGeB 3 4 5, 0x0102030405060708, 0x0102030405060708, false, 0xFFFFFFFFFFFFFFFF, true),
    (.lvAnyGeB 3 4 5, 0x0102030405060708, 0x0102030405060708, true, 0xFFFFFFFFFFFFFFFF, true),
    (.lvCmpGeB 3 4 5, 0x80027F04FF060709, 0x0102030405060708, true, 0x00FFFFFF00FFFFFF, true),
    (.lvAllGtB 3 4 5, 0x0102030405060708, 0x0102030405060708, true, 0x0000000000000000, false),
    (.lvAnyGtB 3 4 5, 0x0102030405060708, 0x0102030405060708, false, 0x0000000000000000, false),
    (.lvCmpGtB 3 4 5, 0x80027F04FF060709, 0x0102030405060708, true, 0x0000FF00000000FF, true),
    (.lvAllLeB 3 4 5, 0x0102030405060708, 0x0102030405060708, false, 0xFFFFFFFFFFFFFFFF, true),
    (.lvAnyLeB 3 4 5, 0x0102030405060708, 0x0102030405060708, true, 0xFFFFFFFFFFFFFFFF, true),
    (.lvCmpLeB 3 4 5, 0x80027F04FF060709, 0x0102030405060708, true, 0xFFFF00FFFFFFFF00, true),
    (.lvAllLtB 3 4 5, 0x0102030405060708, 0x0102030405060708, true, 0x0000000000000000, false),
    (.lvAnyLtB 3 4 5, 0x0102030405060708, 0x0102030405060708, false, 0x0000000000000000, false),
    (.lvCmpLtB 3 4 5, 0x80027F04FF060709, 0x0102030405060708, true, 0xFF000000FF000000, true),
    (.lvAllEqH 3 4 5, 0x0001000200038000, 0x0001000200030004, false, 0x0000000000000000, false),
    (.lvAnyEqH 3 4 5, 0x0001000200038000, 0x0001000200030004, false, 0xFFFFFFFFFFFFFFFF, true),
    (.lvCmpEqH 3 4 5, 0x8000000200047FFF, 0x0001000200030004, false, 0x0000FFFF00000000, false),
    (.lvAllNeH 3 4 5, 0x0001000200038000, 0x0001000200030004, false, 0x0000000000000000, false),
    (.lvAnyNeH 3 4 5, 0x0001000200038000, 0x0001000200030004, false, 0xFFFFFFFFFFFFFFFF, true),
    (.lvCmpNeH 3 4 5, 0x8000000200047FFF, 0x0001000200030004, false, 0xFFFF0000FFFFFFFF, false),
    (.lvAllGeH 3 4 5, 0x0001000200038000, 0x0001000200030004, false, 0x0000000000000000, false),
    (.lvAnyGeH 3 4 5, 0x0001000200038000, 0x0001000200030004, false, 0xFFFFFFFFFFFFFFFF, true),
    (.lvCmpGeH 3 4 5, 0x8000000200047FFF, 0x0001000200030004, false, 0x0000FFFFFFFFFFFF, false),
    (.lvAllGtH 3 4 5, 0x0001000200038000, 0x0001000200030004, false, 0x0000000000000000, false),
    (.lvAnyGtH 3 4 5, 0x0001000200038000, 0x0001000200030004, false, 0x0000000000000000, false),
    (.lvCmpGtH 3 4 5, 0x8000000200047FFF, 0x0001000200030004, false, 0x00000000FFFFFFFF, false),
    (.lvAllLeH 3 4 5, 0x0001000200038000, 0x0001000200030004, false, 0xFFFFFFFFFFFFFFFF, true),
    (.lvAnyLeH 3 4 5, 0x0001000200038000, 0x0001000200030004, false, 0xFFFFFFFFFFFFFFFF, true),
    (.lvCmpLeH 3 4 5, 0x8000000200047FFF, 0x0001000200030004, false, 0xFFFFFFFF00000000, false),
    (.lvAllLtH 3 4 5, 0x0001000200038000, 0x0001000200030004, false, 0x0000000000000000, false),
    (.lvAnyLtH 3 4 5, 0x0001000200038000, 0x0001000200030004, false, 0xFFFFFFFFFFFFFFFF, true),
    (.lvCmpLtH 3 4 5, 0x8000000200047FFF, 0x0001000200030004, false, 0xFFFF000000000000, false)] : List (Instr × Word × Word × Bool × Word × Bool)).all
    (fun p => runs ((cpu withVector [(4, p.2.1), (5, p.2.2.1)]).setF p.2.2.2.1) p.1 fun t =>
      t.reg 3 == p.2.2.2.2.1 && t.flag == p.2.2.2.2.2) = true := by
  decide +kernel

/-- One quiet step of the environment. -/
def quiet : EnvInput :=
  { ticks := 0, irq := 0, extWp := false, reset := false, writes := [], ompicWrites := [],
    events := { dds := 0, bs := 0, lsus := 0, ifs := 0, icm := 0, dcm := 0 } }

/-- A 32-bit core with every unit. -/
def s32 : State := State.resetOf Platform.full32
/-- A 64-bit core with every unit. -/
def s64 : State := State.resetOf Platform.full64
/-- The default core with one instruction where it fetches next, and one quiet step of the environment to come. -/
def placed (w : Nat) : State := { State.reset.withFetchWord 32 w with env := [quiet] }
/-- A 32-bit core with OVE and every AECR condition on, and operands that overflow and carry. -/
def trapping : State := { cpu Platform.full32 [(4, 0x80000000), (5, 0x80000000), (6, 1)] with sr := 0x9001, aecr := 0x7F }
/-- A 32-bit core with a floating-point trap enabled, and operands that raise flags. -/
def fpTrapping : State := { cpu Platform.full32 [(4, 0x7F800000), (5, 0x7FA00000), (6, 0x7FFFFFFF)] with fpcsr := 1 }
/-- A 32-bit core in user mode. -/
def user : State := { cpu Platform.full32 [(4, 1), (5, 2)] with sr := 0x8000 }
/-- A 32-bit core with two free contexts above the current one and fast context switching on. -/
def switching : State := { s32 with sr := 0xD0008101 }
/-- A 32-bit core in its last context with fast context switching on. -/
def lastContext : State := { s32 with sr := 0xF0008101 }
/-- A 32-bit core whose data MMU translates page 1 to page 3 for supervisor reads, and nothing else. -/
def translating : State :=
  { s32 with
    sr := 0x8021
    dmmu := { s32.dmmu with
      tlbm := s32.dmmu.tlbm.set (tlbIndex 0 1) 0x00002001, tlbt := s32.dmmu.tlbt.set (tlbIndex 0 1) 0x00006100 } }
/-- Two cores that share an OMPIC at 0x98000000; this is core 1, with its control register's address in r4. -/
def pair : State :=
  cpu { Platform.config with numCores := 2, coreId := 1, ompic := some { base := 0x98000000, irq := 1 } }
    [(4, 0x98000008), (5, 0xC0000123)]

theorem ready_of {s : State} {i : Instr} (h : Instr.wellFormed s.cfg i = true) : Ready s i := by
  unfold Instr.wellFormed at h
  simp only [Bool.and_eq_true] at h
  exact ⟨h.1, h.2⟩

/-- The answer is a next state. -/
def isNext (o : Out State) : Bool :=
  match o with
  | .next _ => true
  | .fault _ | .refused _ => false

theorem next_of_isNext {o : Out State} (h : isNext o = true) : ∃ t, o = .next t := by
  cases o with
  | next t => exact ⟨t, rfl⟩
  | fault f => cases h
  | refused r => cases h

/-- One step from reset runs the instruction placed there: l.addi with r0 as source and destination. -/
theorem test_step_runs_placed_word :
    (match step (State.reset.withFetchWord 32 0x9C000005) with
     | .next t => t.reg 0 == 5 && t.pc == 0x104 && t.ppc == 0x100
     | .fault _ | .refused _ => false) = true := by
  decide +kernel

/-- The timer takes its exception before the instruction when TEE is set (vectors of R186, R187). -/
theorem test_step_timer_first :
    (match step { placed 0x9C000005 with sr := 0x8003, ttmr := 0x30000000, ttcr := 7 } with
     | .next t => t.pc == 0x500 && t.epcr.get 0 == 0x100 && t.esr.get 0 == 0x8003 && t.sr == 0x8001 && t.reg 0 == 0
     | .fault _ | .refused _ => false) = true := by
  decide +kernel

/-- A level-triggered line that PICMR lets through takes the external interrupt (R181, R890). -/
theorem test_step_external :
    (match step { placed 0x9C000005 with sr := 0x8005, picmr := 4, env := [{ quiet with irq := 4 }] } with
     | .next t => t.pc == 0x800 && t.epcr.get 0 == 0x100 && t.reg 0 == 0
     | .fault _ | .refused _ => false) = true := by
  decide +kernel

/-- A translated load: page 1 lies at page 3, the entry is marked accessed (R264, R266, R269). -/
theorem test_translated_load :
    runs { translating with mem := [(0x6004, 0xAB)] } (.lLbz 3 0 0x2004)
      (fun t => t.reg 3 == 0xAB && t.dmmu.tlbt.get (tlbIndex 0 1) == 0x00006110) = true := by
  decide +kernel

/-- A store to a page without write permission takes the data page fault with EEAR its address (R264, R874). -/
theorem test_page_fault :
    runs translating (.lSb 0 3 0x2004) (fun t => t.pc == 0x300 && t.eear.get 0 == 0x2004 && t.mem == []) = true := by
  decide +kernel

/-- A message to the other core and the acknowledge of the own, by one store to the control register (R911, R913). -/
theorem test_ompic_send :
    runs { pair with ompic := [(1, { pend := true, src := 0, data := 7 })] } (.lSw 4 5 0)
      (fun t => t.ompic == [(0, { pend := true, src := 1, data := 0x123 }), (1, { pend := false, src := 0, data := 7 })])
      = true := by
  decide +kernel

/-- A DVR/DCR pair that matches the fetch address and generates a breakpoint takes the trap before the instruction (R147,
R148). -/
theorem test_breakpoint :
    (match step { s32 with
        env := [quiet],
        dbg := { s32.dbg with
          dvr := s32.dbg.dvr.set 0 0x100, dcr := s32.dbg.dcr.set 0 0x22, dmr2 := 0x00001000 } } with
     | .next t => t.pc == 0xE00 && t.epcr.get 0 == 0x100 && t.dbg.dmr2 == 0x00401000
     | .fault _ | .refused _ => false) = true := by
  decide +kernel

/-- A write of PMR[SDF] bits and DME puts the core to doze, and a pending interrupt wakes it (R170, R171). -/
theorem test_doze_and_wake :
    (runs { s32 with gpr := s32.gpr.set 5 0x10 } (.lMtspr 0 5 0x4000) (fun t => t.status == .doze && t.pmr == 0x10)
      && (match step { s32 with status := .doze, pmr := 0x10, picmr := 1, env := [{ quiet with irq := 1 }] } with
          | .next t => t.status == .running && t.pmr == 0
          | .fault _ | .refused _ => false)) = true := by
  decide +kernel

theorem witness_StepRunsInstruction : ∃ (s s' : State) (w : Word32) (i : Instr),
    resetAsserted s = false ∧ (beginStep s).status = .running ∧ pendingEntry (beginStep s) = none ∧
    fetchWord (beginStep s) = .ok w s' ∧ decodeWord w = .ok i ∧
    breakpoints (debugBefore (countEvent 6 s'.sm 1 s')).2 (debugBefore (countEvent 6 s'.sm 1 s')).1 = 0 :=
  ⟨placed 0xE0642800, beginStep (placed 0xE0642800), 0xE0642800, .lAdd 3 4 5, by decide +kernel⟩

theorem witness_PlainStepRunsBytes : ∃ (s u : State) (i : Instr), beginStep s = u ∧ resetAsserted s = false ∧
    u.status = .running ∧ pendingEntry u = none ∧ u.cfg.hasDu = false ∧ u.cfg.hasPcu = false ∧
    u.translated .fetch = false ∧ aligned (trunc u.cfg u.pc) 4 = true ∧
    (∀ j, j < 4 → validPa u.cfg .fetch (plainPa u u.pc + j) = true ∧ inOmpic u.cfg (plainPa u u.pc + j) = false) ∧
    decode ((List.range 4).map fun j => readByte u.mem (plainPa u u.pc + j)) = .ok i :=
  ⟨placed 0xE0642800, beginStep (placed 0xE0642800), .lAdd 3 4 5, by decide +kernel⟩

theorem witness_UndecodedWordIllegal_word : ∃ (s u s' : State) (w : Word32) (x : Undecoded), beginStep s = u ∧
    resetAsserted s = false ∧ u.status = .running ∧ pendingEntry u = none ∧ u.cfg.hasDu = false ∧
    u.cfg.hasPcu = false ∧ fetchWord u = .ok w s' ∧ decodeWord w = .error x :=
  ⟨placed 0x1C000000, beginStep (placed 0x1C000000), beginStep (placed 0x1C000000), 0x1C000000, .unassignedMajor 7,
    by decide +kernel⟩

theorem witness_UndecodedWordIllegal_fetch : ∃ (s u s' : State) (e : Exc), beginStep s = u ∧
    resetAsserted s = false ∧ u.status = .running ∧ pendingEntry u = none ∧ u.cfg.hasDu = false ∧
    u.cfg.hasPcu = false ∧ fetchWord u = .exc e s' :=
  ⟨{ placed 0 with pc := 0x102 }, beginStep { placed 0 with pc := 0x102 }, beginStep { placed 0 with pc := 0x102 },
    .alignment, by decide +kernel⟩

theorem witness_PendingExceptionOrder_timer : ∃ s u : State, beginStep s = u ∧ resetAsserted s = false ∧
    u.status = .running ∧ timerRequest u = true ∧ u.tee = true ∧ irqRequest u = true ∧ u.iee = true :=
  ⟨{ placed 0 with sr := 0x8007, ttmr := 0x10000000, picmr := 1, env := [{ quiet with irq := 1 }] },
    beginStep { placed 0 with sr := 0x8007, ttmr := 0x10000000, picmr := 1, env := [{ quiet with irq := 1 }] },
    by decide +kernel⟩

theorem witness_PendingExceptionOrder_external : ∃ s u : State, beginStep s = u ∧ resetAsserted s = false ∧
    u.status = .running ∧ (timerRequest u && u.tee) = false ∧ irqRequest u = true ∧ u.iee = true :=
  ⟨{ placed 0 with sr := 0x8005, ttmr := 0x10000000, picmr := 1, env := [{ quiet with irq := 1 }] },
    beginStep { placed 0 with sr := 0x8005, ttmr := 0x10000000, picmr := 1, env := [{ quiet with irq := 1 }] },
    by decide +kernel⟩

theorem witness_PendingExceptionOrder_debug : ∃ s u : State, beginStep s = u ∧ resetAsserted s = false ∧
    u.status = .running ∧ (timerRequest u && u.tee) = false ∧ (irqRequest u && u.iee) = false ∧ u.dbgPending = true :=
  ⟨{ s32 with env := [quiet], dbgPending := true }, beginStep { s32 with env := [quiet], dbgPending := true },
    by decide +kernel⟩

theorem witness_IdleCoreExecutesNothing : ∃ s : State, resetAsserted s = false ∧ (beginStep s).status ≠ .running ∧
    s.status = .suspend :=
  ⟨{ s32 with env := [quiet], status := .suspend }, by decide +kernel⟩

theorem witness_IdleCoreExecutesNothing_stopped : ∃ s : State, resetAsserted s = false ∧
    (beginStep s).status ≠ .running ∧ s.status = .stopped :=
  ⟨{ s32 with env := [quiet], status := .stopped }, by decide +kernel⟩

theorem witness_IdleCoreExecutesNothing_doze : ∃ s : State, resetAsserted s = false ∧ (beginStep s).status = .doze :=
  ⟨{ s32 with env := [{ quiet with ticks := 3 }], status := .doze, ttmr := 0xC0000000 }, by decide +kernel⟩

/-- Doze and sleep end with a masked request of the timer (TEE is 0), and last without one. -/
theorem witness_IdleCoreExecutesNothing_wake :
    (∀ st ∈ [Status.doze, .sleep], ∃ s : State, resetAsserted s = false ∧ s.status = st ∧
      timerRequest (envStep s) = true ∧ s.tee = false) ∧
    ∃ s : State, resetAsserted s = false ∧ s.status = .sleep ∧ timerRequest (envStep s) = false ∧
      irqRequest (envStep s) = false := by
  refine ⟨?_, ⟨{ s32 with env := [quiet], status := .sleep }, by decide +kernel⟩⟩
  intro st hst
  refine ⟨{ s32 with env := [quiet], status := st, ttmr := 0x10000000 }, ?_⟩
  revert st
  decide +kernel

theorem witness_ResetEventValues : ∃ s : State, resetAsserted s = true :=
  ⟨{ s32 with env := [{ quiet with reset := true }] }, by decide +kernel⟩

theorem witness_InvariantKeptByStep : ∃ s t : State, s.Inv ∧ step s = .next t :=
  ⟨placed 0x9C000005, (next_of_isNext (o := step (placed 0x9C000005)) (by decide +kernel)).choose,
    { mem := by decide +kernel, ompic := by decide +kernel, sr := by decide +kernel, pc := by decide +kernel,
      ppc := by decide +kernel, ds := (by intro a h; cases h), noSlot := by decide +kernel, evbar := by decide +kernel,
      aecr := by decide +kernel, aesr := by decide +kernel, fpcsr := by decide +kernel, pmr := by decide +kernel,
      picmr := by decide +kernel },
    (next_of_isNext (o := step (placed 0x9C000005)) (by decide +kernel)).choose_spec⟩

theorem witness_UserModeConfined : ∃ (i : Instr) (s t : State), s.sm = false ∧ exec i s = .next t ∧ t.exc = none :=
  ⟨.lAnd 3 4 5, user, advance (user.setReg 3 (user.reg 4 &&& user.reg 5)), by decide +kernel,
    gate_ready (s := user) (i := .lAnd 3 4 5) (ready_of (by decide +kernel)) (result 3 (user.reg 4 &&& user.reg 5) user),
    by decide +kernel⟩

/-- The map of Table 4-2: a register of the table at its address, one of a unit that is there, and an address outside. -/
theorem witness_UserModeConfined_map : sprAt 0x2801 = some .maclo ∧ sprPresent s32.cfg .maclo = true ∧
    (∀ row ∈ sprTable, ¬(row.base ≤ (0x7FF : BitVec 16).toNat ∧ (0x7FF : BitVec 16).toNat < row.base + row.count)) := by
  refine ⟨by decide +kernel, by decide +kernel, ?_⟩
  intro row hr
  have h : sprTable.all (fun r => !(decide (r.base ≤ 0x7FF) && decide (0x7FF < r.base + r.count))) = true := by
    decide +kernel
  have := List.all_eq_true.mp h row hr
  simp at this
  simp
  omega

theorem witness_ExceptionEntryState : ∃ (e : Exc) (s : State), s.diverts e = false ∧ s.outOfContexts = false ∧
    s.fastCtx = true ∧ s.ds = some 0x2010 :=
  ⟨.dataPageFault, { switching with ds := some 0x2010 }, by decide +kernel⟩

theorem witness_VectorOffsets : ∃ s : State, s.outOfContexts = false ∧ s.diverts .reset = false ∧
    s.diverts .trap = false ∧ s.eph = true ∧ s.evbar ≠ 0 :=
  ⟨{ s32 with sr := 0xC001, evbar := 0x00002000 }, by decide +kernel⟩

theorem witness_DebugUnitAndEntryDiversions_stop : ∃ (e : Exc) (s : State), s.diverts e = true :=
  ⟨.trap, { s32 with dbg := { s32.dbg with dsr := 0x2000 } }, by decide +kernel⟩

theorem witness_DebugUnitAndEntryDiversions_last : ∃ (e : Exc) (s : State), s.diverts e = false ∧ s.outOfContexts = true :=
  ⟨.systemCall, lastContext, by decide +kernel⟩

/-- The debug unit's registers with one pair: a value, its control register, and DMR2. -/
def watching (dvr dcr dmr1 dmr2 : Word32) : State :=
  { s32 with
    env := [quiet]
    cfg := { s32.cfg with hasPcu := false }
    dbg := { s32.dbg with dvr := s32.dbg.dvr.set 0 dvr, dcr := s32.dbg.dcr.set 0 dcr, dmr1 := dmr1, dmr2 := dmr2 } }

/-- A pair observes a fetch, and one that observes loads observes nothing of a store. -/
theorem witness_DebugUnitAndEntryDiversions_match : Observed 1 0x100 none 0x100 ∧
    (∀ q, ¬Observed 2 0x100 (some { kind := .store, ea := 4, data := 0 }) q) ∧
    (∃ q, Observed 6 0x100 (some { kind := .store, ea := 4, data := 0 }) q) := by
  refine ⟨.inl ⟨rfl, rfl⟩, ?_, 4, ?_⟩
  · rintro q (⟨h, -⟩ | ⟨a, h, h'⟩)
    · cases h
    · cases h; simp at h'
  · exact .inr ⟨_, rfl, .inr (.inl ⟨.inr rfl, rfl, rfl⟩)⟩

/-- A breakpoint before the instruction at the fetch address. -/
theorem witness_DebugUnitAndEntryDiversions_before : ∃ (s u s' : State) (w : Word32), beginStep s = u ∧
    resetAsserted s = false ∧ u.status = .running ∧ pendingEntry u = none ∧ u.cfg.hasPcu = false ∧ u.cfg.hasDu = true ∧
    fetchWord u = .ok w s' ∧ (watchpoints s' (trunc s'.cfg s'.pc) none).getLsbD 0 = true ∧
    s'.dbg.dmr2.getLsbD 12 = true :=
  ⟨watching 0x100 0x22 0 0x1000, beginStep (watching 0x100 0x22 0 0x1000), beginStep (watching 0x100 0x22 0 0x1000), 0,
    by decide +kernel⟩

/-- A fetch watchpoint that brings counter 0 from 0 to its match value 1, with watchpoint 8 a breakpoint. -/
def counting (dmr1 : Word32) : State :=
  let s := watching 0x100 0x22 dmr1 0x100001
  { s with dbg := { s.dbg with dwcr0 := 0x10000 } }

theorem witness_DebugUnitAndEntryDiversions_counter : ∃ (s u s' : State) (w : Word32), beginStep s = u ∧
    resetAsserted s = false ∧ u.status = .running ∧ pendingEntry u = none ∧ u.cfg.hasPcu = false ∧ u.cfg.hasDu = true ∧
    fetchWord u = .ok w s' ∧ FetchFires s' (watchpoints s' (trunc s'.cfg s'.pc) none) 8 ∧
    s'.dbg.dmr2.getLsbD 20 = true :=
  ⟨counting 0, beginStep (counting 0), beginStep (counting 0), 0, rfl, by decide +kernel, by decide +kernel,
    by decide +kernel, by decide +kernel, by decide +kernel, by decide +kernel,
    .inl ⟨by decide +kernel, ⟨by decide +kernel, by unfold CountIsMatch; decide +kernel⟩,
      by unfold CountIsMatch; decide +kernel⟩, by decide +kernel⟩

/-- The breakpoint of a counter that the fetch brings to its match value comes before the instruction (R148, D24). -/
theorem test_counter_breakpoint :
    (match step (counting 0) with
     | .next t => t.pc == 0xE00 && t.epcr.get 0 == 0x100 && t.dbg.dmr2.getLsbD 30 && !t.dbgPending
     | .fault _ | .refused _ => false) = true := by
  decide +kernel

/-- After an instruction: single-step, a breakpoint by a load, and a watchpoint counter at its match value. -/
theorem witness_DebugUnitAndEntryDiversions_after :
    (watching 0 0 0x400000 0).cfg.hasDu = true ∧ (watching 0 0 0x400000 0).exc = none ∧
    (watching 0 0 0x400000 0).dbg.dmr1.getLsbD 22 = true ∧
    (∃ s : State, s.cfg.hasDu = true ∧ s.exc = none ∧
      ((watchpoints s 0x100 s.acc).setWidth 10 &&& ~~~(0 : BitVec 10)).getLsbD 0 = true ∧
      s.dbg.dmr2.getLsbD 12 = true) ∧
    (∃ s : State, s.cfg.wpci = true ∧ s.dbg.dmr1.toNat / 4 ^ 8 % 4 = 0 ∧ s.dbg.dmr2.getLsbD 20 = true ∧
      (countWatchpoints s 0).dbg.dwcr0.toNat % 2 ^ 16 = s.dbg.dwcr0.toNat / 2 ^ 16) :=
  ⟨by decide +kernel, by decide +kernel, by decide +kernel,
    ⟨{ watching 8 0x42 0 0x1000 with acc := some { kind := .load, ea := 8, data := 0 } }, by decide +kernel⟩,
    ⟨watching 0 0 0 0x100000, by decide +kernel⟩⟩

/-- The instruction that sets DMR1[ST] has completed: a trap is pending, and the next step takes it (R149). -/
theorem test_single_step :
    (match step { watching 0 0 0x400000 0 with mem := [(0x100, 0x15)] } with
     | .next t => t.pc == 0x104 && t.dbgPending
        && (match step { t with env := [quiet] } with
            | .next v => v.pc == 0xE00 && v.epcr.get 0 == 0x104
            | .fault _ | .refused _ => false)
     | .fault _ | .refused _ => false) = true := by
  decide +kernel

theorem witness_SystemCallAndTrap (k : BitVec 16) : Ready s32 (.lSys k) ∧ Ready s32 (.lTrap k) ∧
    s32.diverts .systemCall = false ∧ s32.diverts .trap = false ∧ s32.outOfContexts = false ∧ s32.ds = none :=
  ⟨⟨rfl, rfl⟩, ⟨rfl, rfl⟩, by decide +kernel⟩

theorem witness_ReturnFromException : Ready s32 .lRfe ∧ s32.sm = true ∧ Ready user .lRfe ∧ user.sm = false :=
  ⟨ready_of (by decide +kernel), by decide +kernel, ready_of (by decide +kernel), by decide +kernel⟩

theorem witness_UnimplementedIllegal : implemented State.reset.cfg (.lMac 4 5) = false := by decide +kernel

theorem witness_MissingRegisterRange : ∃ s : State, implemented s.cfg (.lAdd 16 4 5) = true ∧
    regsExist s.cfg (.lAdd 16 4 5) = false :=
  ⟨State.resetOf { Platform.config with ngpr := 16 }, by decide +kernel⟩

/-- An implementation that supplies every custom instruction, and one that supplies none. -/
theorem witness_CustomInstructions : CustomOp.lCust1 ∉ State.reset.cfg.customInsn ∧
    ∃ s : State, Memory.wf s.mem = true ∧
      ∀ i ∈ ([.lfCust1S 4 5, .lfCust1D 4 5, .lCust1, .lCust2, .lCust3, .lCust4, .lCust5 3 4 5 6 7, .lCust6, .lCust7, .lCust8,
        .lvCust1, .lvCust2, .lvCust3, .lvCust4] : List Instr), Ready s i := by
  refine ⟨by decide +kernel, State.resetOf { Platform.full64 with
    customInsn := [.lfCust1S, .lfCust1D, .lCust1, .lCust2, .lCust3, .lCust4, .lCust5, .lCust6, .lCust7, .lCust8, .lvCust1,
      .lvCust2, .lvCust3, .lvCust4] }, by decide +kernel, fun i hi => ready_of ?_⟩
  revert i
  decide +kernel

/-- Every instruction that a 32-bit core with every unit runs is ready there, its operand fields at their ends. -/
theorem witness_ready_on_32 : ∀ i ∈ ([.lAdd 31 0 31, .lAddc 31 0 31, .lAddi 31 0 0x8000, .lAddic 31 0 0xFFFF, .lSub 31 0 31,
    .lAnd 31 0 31, .lAndi 31 0 0xFFFF, .lOr 31 0 31, .lOri 31 0 0xFFFF, .lXor 31 0 31, .lXori 31 0 0x8000, .lMovhi 31 0xFFFF,
    .lAdrp 31 0x1FFFFF, .lCmov 31 0 31, .lSll 31 0 31, .lSlli 31 0 63, .lSrl 31 0 31, .lSrli 31 0 63, .lSra 31 0 31,
    .lSrai 31 0 63, .lRor 31 0 31, .lRori 31 0 63, .lMul 31 0 31, .lMuli 31 0 0x8000, .lMulu 31 0 31, .lMuld 0 31,
    .lMuldu 0 31, .lDiv 31 0 31, .lDivu 31 0 31, .lExtbs 31 0, .lExtbz 31 0, .lExths 31 0, .lExthz 31 0, .lExtws 31 0,
    .lExtwz 31 0, .lFf1 31 0, .lFl1 31 0, .lSfeq 0 31, .lSfeqi 31 0x8000, .lSfne 0 31, .lSfnei 31 0x8000, .lSfgtu 0 31,
    .lSfgtui 31 0x8000, .lSfgeu 0 31, .lSfgeui 31 0x8000, .lSfltu 0 31, .lSfltui 31 0x8000, .lSfleu 0 31,
    .lSfleui 31 0x8000, .lSfgts 0 31, .lSfgtsi 31 0x8000, .lSfges 0 31, .lSfgesi 31 0x8000, .lSflts 0 31,
    .lSfltsi 31 0x8000, .lSfles 0 31, .lSflesi 31 0x8000, .lJ 0x3FFFFFF, .lJal 0x2000000, .lBf 0x3FFFFFF, .lBnf 0x2000000,
    .lJr 31, .lJalr 31, .lNop 0xFFFF, .lMsync, .lPsync, .lCsync, .lMfspr 31 0 0xFFFF, .lMtspr 0 31 0xFFFF, .lMac 0 31,
    .lMaci 31 0x8000, .lMacu 0 31, .lMsb 0 31, .lMsbu 0 31, .lMacrc 31, .lfAddS 31 0 31, .lfSubS 31 0 31, .lfMulS 31 0 31,
    .lfDivS 31 0 31, .lfItofS 31 0, .lfFtoiS 31 0, .lfMaddS 0 31, .lfSfeqS 0 31, .lfSfneS 0 31, .lfSfgtS 0 31,
    .lfSfgeS 0 31, .lfSfltS 0 31, .lfSfleS 0 31, .lfSfueqS 0 31, .lfSfuneS 0 31, .lfSfugtS 0 31, .lfSfugeS 0 31,
    .lfSfultS 0 31, .lfSfuleS 0 31, .lfSfunS 0 31, .lfAddD 31 0 31 1 0 1, .lfSubD 31 0 31 1 0 1, .lfMulD 31 0 31 1 0 1,
    .lfDivD 31 0 31 1 0 1, .lfItofD 31 0 1 0, .lfFtoiD 31 0 1 0, .lfStodD 31 0 1, .lfDtosD 31 0 1, .lfMaddD 0 31 1 0,
    .lfSfeqD 0 31 0 1, .lfSfneD 0 31 0 1, .lfSfgtD 0 31 0 1, .lfSfgeD 0 31 0 1, .lfSfltD 0 31 0 1, .lfSfleD 0 31 0 1,
    .lfSfueqD 0 31 0 1, .lfSfuneD 0 31 0 1, .lfSfugtD 0 31 0 1, .lfSfugeD 0 31 0 1, .lfSfultD 0 31 0 1,
    .lfSfuleD 0 31 0 1, .lfSfunD 0 31 0 1] : List Instr), Ready s32 i := by
  intro i hi
  refine ready_of ?_
  revert i
  decide +kernel

/-- Every vector instruction is ready on a 64-bit core with every unit. -/
theorem witness_ready_vector : ∀ i ∈ ([
    .lvAddB 31 0 31, .lvAddH 31 0 31, .lvAddsB 31 0 31, .lvAddsH 31 0 31, .lvAdduB 31 0 31, .lvAdduH 31 0 31,
    .lvAddusB 31 0 31, .lvAddusH 31 0 31, .lvAllEqB 31 0 31, .lvAllEqH 31 0 31, .lvAllGeB 31 0 31,
    .lvAllGeH 31 0 31, .lvAllGtB 31 0 31, .lvAllGtH 31 0 31, .lvAllLeB 31 0 31, .lvAllLeH 31 0 31,
    .lvAllLtB 31 0 31, .lvAllLtH 31 0 31, .lvAllNeB 31 0 31, .lvAllNeH 31 0 31, .lvAnd 31 0 31, .lvAnyEqB 31 0 31,
    .lvAnyEqH 31 0 31, .lvAnyGeB 31 0 31, .lvAnyGeH 31 0 31, .lvAnyGtB 31 0 31, .lvAnyGtH 31 0 31,
    .lvAnyLeB 31 0 31, .lvAnyLeH 31 0 31, .lvAnyLtB 31 0 31, .lvAnyLtH 31 0 31, .lvAnyNeB 31 0 31,
    .lvAnyNeH 31 0 31, .lvAvgB 31 0 31, .lvAvgH 31 0 31, .lvCmpEqB 31 0 31, .lvCmpEqH 31 0 31, .lvCmpGeB 31 0 31,
    .lvCmpGeH 31 0 31, .lvCmpGtB 31 0 31, .lvCmpGtH 31 0 31, .lvCmpLeB 31 0 31, .lvCmpLeH 31 0 31,
    .lvCmpLtB 31 0 31, .lvCmpLtH 31 0 31, .lvCmpNeB 31 0 31, .lvCmpNeH 31 0 31, .lvMaddsH 31 0 31,
    .lvMsubsH 31 0 31, .lvMulsH 31 0 31, .lvMaxB 31 0 31, .lvMaxH 31 0 31, .lvMinB 31 0 31, .lvMinH 31 0 31,
    .lvMergeB 31 0 31, .lvMergeH 31 0 31, .lvNand 31 0 31, .lvNor 31 0 31, .lvOr 31 0 31, .lvXor 31 0 31,
    .lvPackB 31 0 31, .lvPackH 31 0 31, .lvPacksB 31 0 31, .lvPacksH 31 0 31, .lvPackusB 31 0 31,
    .lvPackusH 31 0 31, .lvPermN 31 0 31, .lvUnpackB 31 0 31, .lvUnpackH 31 0 31, .lvRlB 31 0 31, .lvRlH 31 0 31,
    .lvSllB 31 0 31, .lvSllH 31 0 31, .lvSll 31 0 31, .lvSrlB 31 0 31, .lvSrlH 31 0 31, .lvSraB 31 0 31,
    .lvSraH 31 0 31, .lvSrl 31 0 31, .lvSubB 31 0 31, .lvSubH 31 0 31, .lvSubsB 31 0 31, .lvSubsH 31 0 31,
    .lvSubuB 31 0 31, .lvSubuH 31 0 31, .lvSubusB 31 0 31, .lvSubusH 31 0 31] : List Instr), Ready s64 i := by
  intro i hi
  refine ready_of ?_
  revert i
  decide +kernel

theorem witness_AddSubtractResults : rangeDue s32 (addCauses true true) true = false ∧
    (∀ x y : Word, rangeDue s32 (addCauses (decide (toU s32.cfg x < toU s32.cfg y))
      (outOfRange s32.cfg (toS s32.cfg x - toS s32.cfg y))) (outOfRange s32.cfg (toS s32.cfg x - toS s32.cfg y)) = false) :=
  ⟨by decide +kernel, fun _ _ => by unfold rangeDue; rw [show s32.ove = false by decide +kernel]; rfl⟩

theorem witness_RangeExceptionAfterResult : Ready trapping (.lAdd 3 4 5) ∧ Ready trapping (.lAddi 3 4 0x8000) ∧
    Ready trapping (.lAddc 3 4 5) ∧ Ready trapping (.lAddic 3 4 0x8000) ∧ Ready trapping (.lSub 3 4 6) ∧
    Ready trapping (.lMul 3 4 5) ∧ Ready trapping (.lMuli 3 4 0x8000) ∧ Ready trapping (.lMulu 3 4 5) ∧
    (outOfRange trapping.cfg (toS trapping.cfg (trapping.reg 4) + toS trapping.cfg (trapping.reg 5) + 0) = true ∧
      2 ^ xlenBits trapping.cfg ≤ toU trapping.cfg (trapping.reg 4) + toU trapping.cfg (trapping.reg 5) + 0 ∧
      rangeDue trapping (addCauses true true) true = true) ∧
    (outOfRange trapping.cfg (toS trapping.cfg (trapping.reg 4) + toS trapping.cfg (sext trapping.cfg 0x8000#16) + 0) = true ∧
      rangeDue trapping (addCauses false true) true = true) ∧
    outOfRange trapping.cfg (toS trapping.cfg (trapping.reg 4) - toS trapping.cfg (trapping.reg 6)) = true ∧
    (outOfRange trapping.cfg (toS trapping.cfg (trapping.reg 4) * toS trapping.cfg (trapping.reg 5)) = true ∧
      rangeDue trapping (causeIf true causeOvMul) true = true) ∧
    outOfRange trapping.cfg (toS trapping.cfg (trapping.reg 4) * toS trapping.cfg (sext trapping.cfg 0x8000#16)) = true ∧
    (2 ^ xlenBits trapping.cfg ≤ toU trapping.cfg (trapping.reg 4) * toU trapping.cfg (trapping.reg 5) ∧
      rangeDue trapping (causeIf true causeCyMul) false = true) := by
  refine ⟨ready_of ?_, ready_of ?_, ready_of ?_, ready_of ?_, ready_of ?_, ready_of ?_, ready_of ?_, ready_of ?_, ?_⟩ <;>
    decide +kernel

theorem witness_LogicAndMoveResults : s32.flag = false ∧ (s32.setF true).flag = true := by decide +kernel

theorem witness_MultiplyResults : rangeDue s32 (causeIf true causeOvMul) true = false ∧
    rangeDue s32 (causeIf true causeCyMul) false = false := by decide +kernel

theorem witness_AccumulatorProducts : s32.cfg.xlen = .x32 ∧ Ready s64 (.lMuld 4 5) ∧ Ready s64 (.lMuldu 4 5) ∧
    s64.cfg.xlen = .x64 ∧ s64.ove = false :=
  ⟨rfl, ready_of (by decide +kernel), ready_of (by decide +kernel), rfl, by decide +kernel⟩

theorem witness_DivideResults : ∃ s : State, Ready s (.lDiv 3 4 5) ∧ Ready s (.lDivu 3 4 5) ∧
    toS s.cfg (s.reg 5) = -1 ∧ toS s.cfg (s.reg 5) ≠ 0 ∧ toU s.cfg (s.reg 5) ≠ 0 :=
  ⟨cpu Platform.full32 [(4, 0x80000000), (5, 0xFFFFFFFF)], ready_of (by decide +kernel), ready_of (by decide +kernel),
    by decide +kernel⟩

theorem witness_DivideByZeroFree : Ready s32 (.lDiv 3 4 0) ∧ Ready s32 (.lDivu 3 4 0) ∧ Ready trapping (.lDiv 3 4 0) ∧
    Ready trapping (.lDivu 3 4 0) ∧ toS s32.cfg (s32.reg 0) = 0 ∧ toU trapping.cfg (trapping.reg 0) = 0 ∧
    rangeDue s32 causeDbz true = false ∧ rangeDue s32 causeDbz false = false ∧ rangeDue trapping causeDbz true = true ∧
    rangeDue trapping causeDbz false = true := by
  refine ⟨ready_of ?_, ready_of ?_, ready_of ?_, ready_of ?_, ?_⟩ <;> decide +kernel

theorem witness_ExtendAndFindResults : ∃ s : State, s.reg 0 = 0 ∧ (s.reg 4).getLsbD 31 = true ∧
    (∀ m, m < 31 → (s.reg 4).getLsbD m = false) ∧ (s.reg 5).getLsbD 0 = true ∧
    (∀ m, 0 < m → (s.reg 5).getLsbD m = false) := by
  refine ⟨cpu Platform.full32 [(4, 0x80000000), (5, 1)], by decide +kernel, by decide +kernel, by decide +kernel,
    by decide +kernel, ?_⟩
  intro m hm
  rw [show (cpu Platform.full32 [(4, 0x80000000), (5, 1)]).reg 5 = 1#64 by decide +kernel]
  simp
  omega

/-- Loads and stores of every size are ready on a 64-bit core, and their accesses succeed outside the OMPIC, at the top of
the address space too. -/
theorem witness_LoadResults : (∀ i ∈ ([.lLbz 3 4 0xFFFF, .lLbs 3 4 0xFFFF, .lLhz 3 4 0xFFFE, .lLhs 3 4 0xFFFE,
      .lLwz 3 4 0xFFFC, .lLws 3 4 0xFFFC, .lLd 3 4 0xFFF8, .lLf 3 4 0xFFFC, .lLwa 3 4 0xFFFC] : List Instr), Ready s64 i) ∧
    (∀ n ∈ [1, 2, 4, 8], ∃ pas, accessPas .load (s64.addr 4 (BitVec.ofNat 16 (65536 - n))) n s64 = .ok pas s64 ∧
      ompicAccess s64.cfg pas = none) := by
  constructor
  · intro i hi
    refine ready_of ?_
    revert i
    decide +kernel
  · intro n hn
    refine ⟨(List.range n).map fun j => 2 ^ 35 - n + j, ?_⟩
    revert n
    decide +kernel

theorem witness_LinkedLoad : ∃ (s : State) (pas : List Nat), Ready s (.lLwa 3 4 0x8000) ∧
    accessPas .load (s.addr 4 0x8000) 4 s = .ok pas s ∧ ompicAccess s.cfg pas = none :=
  ⟨s32, [0xFFFF8000, 0xFFFF8001, 0xFFFF8002, 0xFFFF8003], ready_of (by decide +kernel), by decide +kernel⟩

theorem witness_StoreResults : (∀ i ∈ ([.lSb 4 3 0xFFFF, .lSh 4 3 0xFFFE, .lSw 4 3 0xFFFC, .lSd 4 3 0xFFF8] : List Instr),
      Ready s64 i) ∧ Memory.wf s64.mem = true ∧
    (∀ n ∈ [1, 2, 4, 8], ∃ pas, accessPas .store (s64.addr 4 (BitVec.ofNat 16 (65536 - n))) n s64 = .ok pas s64 ∧
      pas.Nodup ∧ ompicAccess s64.cfg pas = none) := by
  refine ⟨?_, by decide +kernel, ?_⟩
  · intro i hi
    refine ready_of ?_
    revert i
    decide +kernel
  · intro n hn
    refine ⟨(List.range n).map fun j => 2 ^ 35 - n + j, ?_⟩
    revert n
    decide +kernel

theorem witness_ConditionalStore : ∃ (s : State) (pas : List Nat), Memory.wf s.mem = true ∧ Ready s (.lSwa 4 5 0) ∧
    accessPas .store (s.addr 4 0) 4 s = .ok pas s ∧ ompicAccess s.cfg pas = none ∧ s.resv = some (pas.headD 0) :=
  ⟨{ cpu Platform.full32 [(4, 0x3000)] with resv := some 0x3000 }, [0x3000, 0x3001, 0x3002, 0x3003], by decide +kernel,
    ready_of (by decide +kernel), by decide +kernel⟩

theorem witness_ConditionalStore_fails : ∃ (s : State) (pas : List Nat), Memory.wf s.mem = true ∧ Ready s (.lSwa 4 5 0) ∧
    accessPas .store (s.addr 4 0) 4 s = .ok pas s ∧ ompicAccess s.cfg pas = none ∧ s.resv ≠ some (pas.headD 0) :=
  ⟨{ cpu Platform.full32 [(4, 0x3000)] with resv := some 0x3004 }, [0x3000, 0x3001, 0x3002, 0x3003], by decide +kernel,
    ready_of (by decide +kernel), by decide +kernel⟩

/-- An l.swa to an OMPIC register without a reservation. -/
theorem witness_ConditionalStore_ompic : ∃ (s : State) (pas : List Nat), Memory.wf s.mem = true ∧ Ready s (.lSwa 4 5 0) ∧
    accessPas .store (s.addr 4 0) 4 s = .ok pas s ∧ ompicAccess s.cfg pas ≠ none ∧ s.resv ≠ some (pas.headD 0) :=
  ⟨pair, [0x98000008, 0x98000009, 0x9800000A, 0x9800000B], by decide +kernel, ready_of (by decide +kernel),
    by decide +kernel⟩

theorem witness_PlainAccessAddresses : 4 ∈ ([1, 2, 4, 8] : List Nat) ∧ s32.translated .store = false ∧
    aligned 0xFFFFFFFC 4 = true ∧ (∀ p ∈ plainPas s32 0xFFFFFFFC 4, validPa s32.cfg .store p = true) := by decide +kernel

theorem witness_PlainAccessAddresses_unaligned : ∃ s : State, 4 ∈ ([1, 2, 4, 8] : List Nat) ∧ s.translated .load = false ∧
    s.cfg.unalignedOk = true ∧ aligned 0xFFFFFFFE 4 = false ∧ (∀ p ∈ plainPas s 0xFFFFFFFE 4, validPa s.cfg .load p = true) :=
  ⟨State.resetOf { Platform.full32 with unalignedOk := true }, by decide +kernel⟩

theorem witness_MisalignedAccess : Ready s32 (.lLhz 3 0 1) ∧
    accessOf s32 (.lLhz 3 0 1) = some (.load, 1, 2) ∧ aligned (1 : Word) 2 = false ∧ s32.cfg.unalignedOk = false :=
  ⟨ready_of (by decide +kernel), by decide +kernel⟩

theorem witness_AbsentMemoryBusError : ∃ s : State, Ready s (.lSw 0 3 0x7FFC) ∧
    accessOf s (.lSw 0 3 0x7FFC) = some (.store, 0x7FFC, 4) ∧ aligned (0x7FFC : Word) 4 = true ∧
    s.translated .store = false ∧ validPa s.cfg .store (plainPa s 0x7FFC) = false :=
  ⟨State.resetOf { Platform.config with
      validPa := [{ base := 0, size := 0x7FFC, fetch := true, load := true, store := true }] },
    ready_of (by decide +kernel), by decide +kernel⟩

theorem witness_JumpResults : s32.ds = none ∧ s32.cfg.nd = false ∧
    ∃ s : State, s.ds = none ∧ s.cfg.nd = true ∧ Ready s (.lJ 1) ∧ Ready s (.lJal 1) ∧ Ready s (.lJalr 9) :=
  ⟨rfl, rfl, State.resetOf { Platform.config with nd := true }, rfl, rfl, ready_of (by decide +kernel),
    ready_of (by decide +kernel), ready_of (by decide +kernel)⟩

theorem witness_JumpInSlotRefused : ∃ s : State, s.ds ≠ none ∧
    ∀ i ∈ ([.lJ 1, .lJal 1, .lBf 1, .lBnf 1, .lJr 5, .lJalr 5] : List Instr), Ready s i := by
  refine ⟨{ s32 with ds := some 0x2010 }, by decide +kernel, ?_⟩
  intro i hi
  refine ready_of ?_
  revert i
  decide +kernel

/-- l.mfspr and l.mtspr of SR in supervisor and in user mode, and of an address that is no register. -/
theorem witness_MoveSpr : Ready s32 (.lMfspr 3 0 0x11) ∧ Ready s32 (.lMtspr 0 3 0x11) ∧ Ready user (.lMfspr 3 0 0x11) ∧
    Ready user (.lMtspr 0 3 0x11) ∧ (0x11 : BitVec 16) = (s32.reg 0).extractLsb' 0 16 ||| 0x11 ∧ sprAt 0x11 = some .sr ∧
    sprPresent s32.cfg .sr = true ∧ sprReadable s32.sm s32.sumra .sr = true ∧ sprWritable s32.sm .sr = true ∧
    (sprPresent user.cfg .sr && sprReadable user.sm user.sumra .sr) = false ∧
    (sprPresent user.cfg .sr && sprWritable user.sm .sr) = false ∧ sprAt 0x7FF = none := by
  refine ⟨ready_of ?_, ready_of ?_, ready_of ?_, ready_of ?_, ?_⟩ <;> decide +kernel

/-- For each register that a supervisor write is read back from: its address names it, it is present, and l.mtspr
completes. -/
theorem witness_SprReadBack : s32.sm = true ∧ ∀ p ∈ ([(0x20, .epcr 0), (0x2F, .epcr 15), (0x30, .eear 0), (0x3F, .eear 15),
      (0x40, .esr 0), (0x4F, .esr 15), (0x2801, .maclo), (0x2802, .machi), (0x2803, .fpmaddlo), (0x2804, .fpmaddhi),
      (0x3012, .dwcr0), (0x3013, .dwcr1), (0x5001, .ttcr), (0x3000, .dvr 0), (0x3007, .dvr 7), (0x3800, .pccr 0),
      (0x3807, .pccr 7), (0x11, .sr)] : List (BitVec 16 × Spr)),
    p.1 = (s32.reg 0).extractLsb' 0 16 ||| p.1 ∧ sprAt p.1 = some p.2 ∧ sprPresent s32.cfg p.2 = true ∧
      runs s32 (.lMtspr 0 3 p.1) (fun _ => true) = true := by
  decide +kernel

/-- The accumulator one below overflow; without OVE no exception is due, with it one is. -/
theorem witness_MacResults :
    (∀ j ∈ ([.lMac 4 5, .lMaci 4 1, .lMsb 4 5, .lMacu 4 5, .lMsbu 4 5] : List Instr), Ready s32 j ∧ Ready s64 j ∧
      Ready trapping j) ∧
    (∃ s : State, s.cfg.xlen = .x32 ∧ s.mac.toInt + macProduct s.cfg (s.reg 4) (s.reg 5) = 2 ^ 63) ∧
    (∀ b, rangeDue s32 (causeIf b causeOvMac) b = false) ∧ (∀ b, rangeDue s64 (causeIf b causeCyMac) false = false) ∧
    rangeDue trapping (causeIf true causeOvMac) true = true ∧ rangeDue trapping (causeIf true causeCyMac) false = true := by
  refine ⟨fun i hi => ⟨ready_of ?_, ready_of ?_, ready_of ?_⟩, ?_, by decide +kernel⟩
  · revert i; decide +kernel
  · revert i; decide +kernel
  · revert i; decide +kernel
  · exact ⟨{ cpu Platform.full32 [(4, 1), (5, 1)] with machi := 0x7FFFFFFF, maclo := 0xFFFFFFFF }, by decide +kernel⟩

theorem witness_MacResults_64 : s64.cfg.xlen = .x64 ∧ Ready s64 (.lMuld 4 5) ∧ Ready s64 (.lMuldu 4 5) ∧
    (∀ fl, rangeDue s64 (causeIf fl causeOvMul) fl = false) ∧ (∀ fl, rangeDue s64 (causeIf fl causeCyMul) false = false) ∧
    ∃ s : State, s.cfg.xlen = .x64 ∧ rangeDue s (causeIf true causeOvMul) true = true ∧
      rangeDue s (causeIf true causeCyMul) false = true :=
  ⟨rfl, ready_of (by decide +kernel), ready_of (by decide +kernel), by decide +kernel, by decide +kernel,
    { s64 with sr := 0x9001, aecr := 0x7F }, by decide +kernel⟩

/-- No floating-point exception is due: it is disabled, or no flag is raised. -/
theorem witness_NoFpTrap (flags : Word32) : NoFpTrap s32 flags ∧ NoFpTrap fpTrapping 0 ∧ fpTrapping.fpee = true :=
  ⟨.inl (by decide +kernel), .inr rfl, by decide +kernel⟩

/-- Float-to-integer conversions have an integer, or a NaN. -/
theorem witness_FloatToInteger : fpToInt 32 (s32.fpS 4) = some (0, 0) ∧ fpToInt 32 (fpTrapping.fpS 5) = none ∧
    s32.fpee = false ∧ fpToInt 64 (s32.fpD 4 1) = some (0, 0) ∧
    fpToInt 64 ((cpu Platform.full32 [(4, 0x7FF80000)]).fpD 4 1) = none ∧
    (cpu Platform.full32 [(4, 0x7FF80000)]).fpee = false := by decide +kernel

/-- A 32-bit core with a floating-point trap enabled and the doubles infinity, signalling NaN and 2^63 - 1 as an integer. -/
def fpTrappingD : State :=
  { cpu Platform.full32 [(4, 0x7FF00000), (6, 0x7FF40000), (8, 0x7FFFFFFF), (9, 0xFFFFFFFF), (10, 0x3FF80000)] with
    fpcsr := 1 }

theorem witness_FloatException : fpTrapping.fpee = true ∧
    (∀ i ∈ ([.lfAddS 3 4 5, .lfSubS 3 4 5, .lfMulS 3 4 5, .lfDivS 3 4 5, .lfItofS 3 6, .lfFtoiS 3 5, .lfMaddS 4 5,
        .lfSfeqS 4 5, .lfSfneS 4 5, .lfSfgtS 4 5, .lfSfgeS 4 5, .lfSfltS 4 5, .lfSfleS 4 5, .lfSfueqS 4 5, .lfSfuneS 4 5,
        .lfSfugtS 4 5, .lfSfugeS 4 5, .lfSfultS 4 5, .lfSfuleS 4 5, .lfSfunS 4 5] : List Instr),
      Instr.wellFormed fpTrapping.cfg i = true) ∧
    (fpSum fpSingle fpTrapping.rm (fpTrapping.fpS 4) (fpTrapping.fpS 5)).flags ≠ 0 ∧
    (fpSum fpSingle fpTrapping.rm (fpTrapping.fpS 4) (fpNegate (fpTrapping.fpS 5))).flags ≠ 0 ∧
    (fpProduct fpSingle fpTrapping.rm (fpTrapping.fpS 4) (fpTrapping.fpS 5)).flags ≠ 0 ∧
    (fpQuotient fpSingle fpTrapping.rm (fpTrapping.fpS 4) (fpTrapping.fpS 5)).flags ≠ 0 ∧
    (fpRoundInt fpSingle fpTrapping.rm ((fpTrapping.reg 6).setWidth 32).toInt 0 false).flags ≠ 0 ∧
    fpToInt 32 (fpTrapping.fpS 5) = none ∧ fpToInt 32 (fpUnpack fpSingle 0x3FC00000) = some (1, flagIxf) ∧
    (fpFused fpSingle fpTrapping.rm (fpTrapping.fpS 4) (fpTrapping.fpS 5)
      (fpUnpack fpSingle fpTrapping.fpmaddlo.toNat)).flags ≠ 0 ∧
    fpIsInf (fpTrapping.fpS 4) = true ∧ fpIsNan (fpTrapping.fpS 5) = true ∧ fpIsSnan (fpTrapping.fpS 5) = true := by
  decide +kernel

theorem witness_FloatException_double : fpTrappingD.fpee = true ∧
    (∀ i ∈ ([.lfAddD 2 4 6 0 0 0, .lfSubD 2 4 6 0 0 0, .lfMulD 2 4 6 0 0 0, .lfDivD 2 4 6 0 0 0, .lfItofD 2 8 0 0,
        .lfFtoiD 2 10 0 0, .lfDtosD 2 6 0, .lfMaddD 4 6 0 0, .lfSfeqD 4 6 0 0, .lfSfneD 4 6 0 0, .lfSfgtD 4 6 0 0,
        .lfSfgeD 4 6 0 0, .lfSfltD 4 6 0 0, .lfSfleD 4 6 0 0, .lfSfueqD 4 6 0 0, .lfSfuneD 4 6 0 0, .lfSfugtD 4 6 0 0,
        .lfSfugeD 4 6 0 0, .lfSfultD 4 6 0 0, .lfSfuleD 4 6 0 0, .lfSfunD 4 6 0 0] : List Instr),
      Instr.wellFormed fpTrappingD.cfg i = true) ∧
    (fpSum fpDouble fpTrappingD.rm (fpTrappingD.fpD 4 0) (fpTrappingD.fpD 6 0)).flags ≠ 0 ∧
    (fpSum fpDouble fpTrappingD.rm (fpTrappingD.fpD 4 0) (fpNegate (fpTrappingD.fpD 6 0))).flags ≠ 0 ∧
    (fpProduct fpDouble fpTrappingD.rm (fpTrappingD.fpD 4 0) (fpTrappingD.fpD 6 0)).flags ≠ 0 ∧
    (fpQuotient fpDouble fpTrappingD.rm (fpTrappingD.fpD 4 0) (fpTrappingD.fpD 6 0)).flags ≠ 0 ∧
    (fpRoundInt fpDouble fpTrappingD.rm (fpTrappingD.double 8 0).toInt 0 false).flags ≠ 0 ∧
    (fpConvert fpSingle fpTrappingD.rm (fpTrappingD.fpD 6 0)).flags ≠ 0 ∧
    fpToInt 64 (fpTrappingD.fpD 6 0) = none ∧ fpToInt 64 (fpTrappingD.fpD 10 0) = some (1, flagIxf) ∧
    (fpFused fpDouble fpTrappingD.rm (fpTrappingD.fpD 4 0) (fpTrappingD.fpD 6 0)
      (fpUnpack fpDouble (fpTrappingD.fpmaddhi ++ fpTrappingD.fpmaddlo).toNat)).flags ≠ 0 ∧
    fpIsInf (fpTrappingD.fpD 4 0) = true ∧ fpIsSnan (fpTrappingD.fpD 6 0) = true := by
  decide +kernel

theorem witness_NanOperands : fpIsNan (.nan true) = true ∧ fpIsNan (fpUnpack fpSingle 0x7FA00000) = true := by
  decide +kernel

theorem witness_VectorCompares : (∀ k, k < 8 → byteEl 5 k = byteEl 5 k) ∧ (∃ k, k < 4 ∧ halfEl 5 k ≠ halfEl 6 k) :=
  ⟨fun _ _ => rfl, 0, by decide +kernel⟩

theorem witness_TranslationOutcomes : translating.translated .load = true ∧ (mmuConfig translating.cfg .load).htr = false ∧
    findEntry translating .load 0x4000 = none ∧ findEntry translating .load 0x3FFF = some (.tlb (tlbIndex 0 1)) ∧
    ((translating.mmu .load).translateOf (.tlb (tlbIndex 0 1))).getLsbD
      (permitBit (.tlb (tlbIndex 0 1)) .load translating.sm) = true ∧
    findEntry translating .store 0x2000 = some (.tlb (tlbIndex 0 1)) ∧
    ((translating.mmu .store).translateOf (.tlb (tlbIndex 0 1))).getLsbD
      (permitBit (.tlb (tlbIndex 0 1)) .store translating.sm) = false := by decide +kernel

theorem witness_AccessExceptionsAndMmu : Ready translating (.lSb 0 3 0x2000) ∧
    accessOf translating (.lSb 0 3 0x2000) = some (.store, 0x2000, 1) ∧
    accessPas .store 0x2000 1 translating = .exc .dataPageFault translating :=
  ⟨ready_of (by decide +kernel), by decide +kernel⟩

/-- A TLB entry hits at both ends of its page and misses beyond, and an ATB entry hits in its 16 MByte page. -/
theorem witness_AccessExceptionsAndMmu_lookup :
    TlbHit translating .load 0x2000 0 ∧ TlbHit translating .load 0x3FFF 0 ∧ (∀ w, ¬TlbHit translating .load 0x4000 w) ∧
    (∃ s : State, s.cfg.xlen = .x32 ∧ (∀ w, ¬TlbHit s .load 0x01FFFFFF w) ∧ AtbHit s .load 0x01FFFFFF 3) ∧
    (∀ e, ¬AtbHit translating .load 0x4000 e) := by
  refine ⟨⟨by decide +kernel, ?_⟩, ⟨by decide +kernel, ?_⟩, ?_,
    ⟨{ s32 with dmmu := { s32.dmmu with atbm := s32.dmmu.atbm.set 3 0x01000001 } }, rfl, ?_, ⟨by decide +kernel, ?_⟩⟩, ?_⟩
  · rintro _ rfl; decide +kernel
  · rintro _ rfl; decide +kernel
  · intro w h; replace h := h.2 _ rfl; revert w; decide +kernel
  · intro w h; replace h := h.2 _ rfl; revert w; decide +kernel
  · rintro _ rfl; decide +kernel
  · intro e h; replace h := h.2 _ rfl; revert e; decide +kernel

/-- A 32-bit core with a hardware walk from address 0: page tables for the first 16 MByte at 0x2000, whose page 1 lies at
frame 3, group 1; the second 16 MByte at frame 0x800, group 2; and group 1 may be loaded by a supervisor. -/
def walking : State :=
  { State.resetOf { Platform.full32 with dmmu := { Platform.fullMmu with htr := true } } with
    sr := 0x8021
    dmmu := { s32.dmmu with pr := 1 }
    mem := [(2, 0x04), (3, 0x40), (5, 0x20), (6, 0x02), (7, 0x80), (0x2006, 0x0E), (0x2007, 0x40)] }

/-- The walk applies to three pages that no entry translates; group 1 permits a load, group 2 does not. -/
theorem witness_AccessExceptionsAndMmu_walk :
    (walking.cfg.xlen = .x32 ∧ walking.cfg.paBits = 32 ∧ (mmuConfig walking.cfg .load).htr = true ∧ walking.cid = 0) ∧
    walking.translated .load = true ∧
    ([0x2000, 0x4000, 0x01000000, 0x02000000].all fun ea => decide (findEntry walking .load ea = none)) = true ∧
    (walking.mmu .load).pr.getLsbD (groupBit .load walking.sm 1) = true ∧
    (walking.mmu .load).pr.getLsbD (groupBit .load walking.sm 2) = false := by
  decide +kernel

/-- A page of each level that a walk finds. -/
theorem witness_AccessExceptionsAndMmu_found : WalkFinds walking .load 0x2000 0x00000E40 2 ∧
    WalkFinds walking .load 0x01000000 0x00200280 1 := by
  unfold WalkFinds
  simp only [forall_eq]
  decide +kernel

/-- An address that a walk gives up on in the first table, and one in the second. -/
theorem witness_AccessExceptionsAndMmu_lost : WalkFails walking .load 0x02000000 ∧ WalkFails walking .load 0x4000 := by
  unfold WalkFails
  simp only [forall_eq]
  decide +kernel

/-- The walk of page 1 ends at the second entry of the second table (R275). -/
theorem test_walk_two_levels : findPte walking .load 0x2004 = some (0x2004, 0x00000E40, 2) := by decide +kernel

/-- A core with and without a PIC, an edge-triggered line that rises and one that stays, and the write that clears it. -/
theorem witness_TimerInterruptsAndOmpic : s32.cfg.hasPic = true ∧ s32.cfg.hasTt = true ∧
    (∃ s : State, s.cfg.hasPic = false ∧ lineLevel s 0 = true) ∧
    (∃ s : State, s.cfg.picEdge.getLsbD 31 = true ∧ lineLevel (envStep s) 31 = true ∧ s.irqSeen.getLsbD 31 = false ∧
      s.picLatch = 0) ∧
    (∃ s : State, s.cfg.picEdge.getLsbD 31 = true ∧ s.picLatch.getLsbD 31 = true ∧
      (0x80000000 : Word).getLsbD 31 = true) :=
  ⟨by decide +kernel, by decide +kernel,
    ⟨{ State.resetOf { Platform.config with hasPic := false } with irqIn := 1 }, by decide +kernel⟩,
    ⟨{ State.resetOf { Platform.config with picEdge := 0x80000000 } with env := [{ quiet with irq := 0x80000000 }] },
      by decide +kernel⟩,
    ⟨{ State.resetOf { Platform.config with picEdge := 0x80000000 } with picLatch := 0x80000000 }, by decide +kernel⟩⟩

/-- The four word loads of the status register of core 1. -/
theorem witness_TimerInterruptsAndOmpic_status : ∃ pas : List Nat,
    accessPas .load (pair.addr 4 4) 4 pair = .ok pas pair ∧ ompicAccess pair.cfg pas = some (some 0x98000000) ∧
    pas.headD 0 = 0x98000000 + 8 * 1 + 4 ∧ pair.littleEndian = false ∧
    ∀ j ∈ ([.lLwz 3 4 4, .lLws 3 4 4, .lLwa 3 4 4, .lLf 3 4 4] : List Instr), Instr.wellFormed pair.cfg j = true :=
  ⟨[0x9800000C, 0x9800000D, 0x9800000E, 0x9800000F], by decide +kernel⟩

/-- l.lwa of an OMPIC status register completes and reserves it; an l.swa without that reservation only clears F. -/
theorem test_ompic_atomics :
    (runs { pair with ompic := [(1, { pend := true, src := 2, data := 7 })] } (.lLwa 3 4 4)
      (fun t => t.resv == some 0x9800000C && t.pc == 0x2004)
      && runs pair (.lSwa 4 5 0) (fun t => t.ompic == pair.ompic && !t.flag && t.pc == 0x2004)) = true := by
  decide +kernel

theorem witness_OmpicMessages : ∃ (pas : List Nat) (w : Word32), sparseWf emptySlot pair.ompic = true ∧
    Ready pair (.lSw 4 5 0) ∧ accessPas .store (pair.addr 4 0) 4 pair = .ok pas pair ∧
    ompicAccess pair.cfg pas = some (some 0x98000000) ∧ pas.headD 0 = 0x98000000 + 8 * 1 ∧ pair.littleEndian = false ∧
    w = (pair.reg 5).setWidth 32 ∧ w.getLsbD 30 = true ∧ (w.extractLsb' 16 14).toNat < pair.cfg.numCores ∧
    w.getLsbD 31 = true ∧ (w.extractLsb' 16 14).toNat ≠ 1 :=
  ⟨[0x98000008, 0x98000009, 0x9800000A, 0x9800000B], 0xC0000123, by decide +kernel, ready_of (by decide +kernel),
    by decide +kernel⟩

/-- Bits 63-32 of the result of l.movhi on XLEN = 64, by R413 and by R304 (log 13). -/
theorem test_l_movhi_on_64 :
    runs (State.resetOf Platform.full64) (.lMovhi 3 0x8000) (fun t => t.reg 3 == 0x80000000) = true ∧
    runs (State.resetOf { Platform.full64 with movhiSigned := true }) (.lMovhi 3 0x8000)
      (fun t => t.reg 3 == 0xFFFFFFFF80000000) = true := by
  decide +kernel

theorem witness_MacReadAndClear_read : Ready s32 (.lMfspr 3 0 0x2802) ∧ Ready s32 (.lMfspr 3 0 0x2801) ∧
    s32.cfg.hasMac = true ∧ s32.reg 0 = 0 :=
  ⟨ready_of (by decide +kernel), ready_of (by decide +kernel), by decide +kernel⟩

/-- A word of l.macrc with a reserved bit set, one of l.movhi and one that is neither. -/
theorem witness_MacReadAndClear_words : (0x187F0000 : Word32) &&& 0xFC01FFFF = 0x18010000 ∧
    (0x18608001 : Word32).toNat / 2 ^ 26 = 6 ∧ (0x18608001 : Word32).getLsbD 16 = false ∧
    (0x18610001 : Word32).toNat / 2 ^ 26 = 6 ∧ (0x18610001 : Word32).getLsbD 16 = true := by decide +kernel

theorem witness_MacReadAndClear_absent : ∃ s : State, .lMacrc ∈ s.cfg.class2Absent :=
  ⟨State.resetOf { Platform.full32 with class2Absent := [.lMacrc] }, by decide +kernel⟩

/-- With sixteen registers a supplied lf.cust1.s that names r16 takes the range exception (R23, R635, R883). -/
theorem test_custom_missing_register :
    runs (State.resetOf { Platform.full32 with ngpr := 16, customInsn := [.lfCust1S] }) (.lfCust1S 3 16)
      (fun t => t.pc == 0xB00) = true := by
  decide +kernel

end Sys2Proof.Tests
end

section
/-! PROOF. The bits of SR: what SR can hold, and which bits an instruction leaves. -/

namespace Sys2Proof.Machine

/-! ## The bits of SR -/

/-- Two words that agree under a mask agree in every bit of the mask. -/
theorem getLsbD_of_and_eq {m x y : Word32} (h : x &&& m = y &&& m) {k : Nat} (hk : m.getLsbD k = true) :
    x.getLsbD k = y.getLsbD k := by
  have := congrArg (fun w : Word32 => w.getLsbD k) h
  simpa [hk] using this

theorem legalSr_getLsbD (c : Config) (w : Word32) (k : Nat) :
    (legalSr c w).getLsbD k = (w.getLsbD k && (srMask c).getLsbD k || decide (k = 15)) := by
  have hfo : (0x8000 : Word32).getLsbD k = decide (k = 15) := by
    rw [show (0x8000 : Word32) = BitVec.twoPow 32 15 by decide, BitVec.getLsbD_twoPow]
    simp [eq_comm]
  rw [legalSr, BitVec.getLsbD_or, BitVec.getLsbD_and, hfo]

/-- A word is what SR can hold when FO is 1 and every other bit that is 1 belongs to a function that exists (R36). -/
theorem legalSr_eq_iff (c : Config) (w : Word32) :
    legalSr c w = w ↔ w.getLsbD 15 = true ∧ ∀ k, k ≠ 15 → w.getLsbD k = true → (srMask c).getLsbD k = true := by
  constructor
  · intro h
    constructor
    · rw [← h, legalSr_getLsbD]; simp
    · intro k hk hone
      rw [← h, legalSr_getLsbD] at hone
      simp only [hk, decide_false, Bool.or_false, Bool.and_eq_true] at hone
      exact hone.2
  · rintro ⟨h15, h⟩
    refine BitVec.eq_of_getLsbD_eq fun k _ => ?_
    rw [legalSr_getLsbD]
    by_cases hk : k = 15
    · subst hk; simp [h15]
    · cases hone : w.getLsbD k
      · simp [hk]
      · simp [h k hk hone]

theorem legalSr_legalSr (c : Config) (w : Word32) : legalSr c (legalSr c w) = legalSr c w := by
  refine BitVec.eq_of_getLsbD_eq fun k _ => ?_
  rw [legalSr_getLsbD, legalSr_getLsbD]
  cases w.getLsbD k <;> cases (srMask c).getLsbD k <;> cases decide (k = 15) <;> rfl

/-- The bits of SR that every implementation has (R36). -/
theorem srMask_getLsbD {k : Nat} (h : (0x00017E07 : Word32).getLsbD k = true) (c : Config) :
    (srMask c).getLsbD k = true := by
  unfold srMask
  simp only [BitVec.getLsbD_or, h, Bool.true_or]

/-- SR[CE] and SR[CID] exist with shadow register files (R36). -/
theorem srMask_getLsbD_context {c : Config} (hn : c.nsgf ≠ 0) {k : Nat} (h : (0xF0000100 : Word32).getLsbD k = true) :
    (srMask c).getLsbD k = true := by
  unfold srMask
  simp only [BitVec.getLsbD_or, if_neg hn, h, Bool.true_or, Bool.or_true]

/-- Changing F, CY and OV alone keeps SR legal. -/
theorem legalSr_of_flags {c : Config} {w v : Word32} (h : v &&& 0xFFFFF1FF = w &&& 0xFFFFF1FF) (hw : legalSr c w = w) :
    legalSr c v = v := by
  rw [legalSr_eq_iff] at *
  obtain ⟨h15, hw⟩ := hw
  refine ⟨(getLsbD_of_and_eq h (by decide)).trans h15, fun k hk hv => ?_⟩
  by_cases hm : (0xFFFFF1FF : Word32).getLsbD k = true
  · exact hw k hk ((getLsbD_of_and_eq h hm).symm.trans hv)
  · have hk32 := BitVec.lt_of_getLsbD hv
    have flags : ∀ k < 32, ¬(0xFFFFF1FF : Word32).getLsbD k = true → (0x00017E07 : Word32).getLsbD k = true := by decide
    exact srMask_getLsbD (flags k hk32 hm) c

/-- Replacing one of F, CY and OV keeps the rest of SR. -/
theorem putBit_flags (w : Word32) (b : Bool) {k : Nat} (hk : k < 32) (h : (0xFFFFF1FF : Word32).getLsbD k = false) :
    putBit w k b &&& 0xFFFFF1FF = w &&& 0xFFFFF1FF := by
  refine BitVec.eq_of_getLsbD_eq fun j _ => ?_
  rw [BitVec.getLsbD_and, BitVec.getLsbD_and, getLsbD_putBit _ _ _ _ hk]
  by_cases hj : j = k
  · subst hj; rw [h]; simp
  · rw [if_neg hj]

theorem ctx_of_flags {s t : State} (hc : t.cfg = s.cfg) (h : t.sr &&& 0xFFFFF1FF = s.sr &&& 0xFFFFF1FF) :
    t.ctx = s.ctx ∧ t.cid = s.cid := by
  have hcid : t.cid = s.cid := by
    refine BitVec.eq_of_getLsbD_eq fun j hj => ?_
    simp only [State.cid, BitVec.getLsbD_extractLsb', hj, decide_true, Bool.true_and]
    exact getLsbD_of_and_eq h (by revert j; decide)
  exact ⟨ctx_congr hc (getLsbD_of_and_eq h (by decide)) hcid, hcid⟩

theorem sm_of_flags {s t : State} (h : t.sr &&& 0xFFFFF1FF = s.sr &&& 0xFFFFF1FF) : t.sm = s.sm :=
  getLsbD_of_and_eq h (by decide)

/-- SR on entry to an exception is legal (R860). -/
theorem entrySr_legal {s : State} (h : legalSr s.cfg s.sr = s.sr) : legalSr s.cfg (entrySr s) = entrySr s := by
  rw [legalSr_eq_iff] at *
  obtain ⟨h15, h⟩ := h
  have hbit : ∀ k, (entrySr s).getLsbD k
      = if k = 13 then s.inSlot else (s.sr.getLsbD k && (0xFFFFFF98 : Word32).getLsbD k || (1 : Word32).getLsbD k) := by
    intro k; simp only [entrySr, getLsbD_putBit _ _ _ _ (show 13 < 32 by decide), BitVec.getLsbD_or, BitVec.getLsbD_and]
  refine ⟨by rw [hbit, if_neg (by decide), h15]; rfl, fun k hk hone => ?_⟩
  by_cases h13 : k = 13
  · subst h13; exact srMask_getLsbD (by decide) _
  · rw [hbit, if_neg h13] at hone
    by_cases h0 : k = 0
    · subst h0; exact srMask_getLsbD (by decide) _
    · have h1 : (1 : Word32).getLsbD k = false := by
        simp [h0]
      simp only [h1, Bool.or_false, Bool.and_eq_true] at hone
      exact h k hk hone.1

/-- SR on entry with fast context switching, its CID the entered context (R870). -/
theorem entrySr_context_legal {s : State} (n : BitVec 4) (hf : s.fastCtx = true) (h : legalSr s.cfg s.sr = s.sr) :
    legalSr s.cfg ((entrySr s &&& 0x0FFFFFFF) ||| (n.setWidth 32 <<< 28))
      = (entrySr s &&& 0x0FFFFFFF) ||| (n.setWidth 32 <<< 28) := by
  have hn : s.cfg.nsgf ≠ 0 := by
    simp only [State.fastCtx, Bool.and_eq_true, decide_eq_true_eq] at hf; exact hf.1
  have he := entrySr_legal h
  rw [legalSr_eq_iff] at *
  obtain ⟨h15, he⟩ := he
  refine ⟨by simp only [BitVec.getLsbD_or, BitVec.getLsbD_and, h15]; rfl, fun k hk hone => ?_⟩
  simp only [BitVec.getLsbD_or, BitVec.getLsbD_and, Bool.or_eq_true, Bool.and_eq_true] at hone
  rcases hone with ⟨hone, -⟩ | hone
  · exact he k hk hone
  · refine srMask_getLsbD_context hn ?_
    simp only [BitVec.getLsbD_shiftLeft, Bool.and_eq_true, decide_eq_true_eq, Bool.not_eq_true',
      decide_eq_false_iff_not] at hone
    obtain ⟨⟨h32, h28⟩, -⟩ := hone
    clear * - h32 h28
    revert k
    decide

end Sys2Proof.Machine
end

section
/-! PROOF. The flags of floating-point operations lie within FPCSR. -/

namespace Sys2Proof.Machine

/-! ## The flags that floating-point operations raise -/

/-- These flags have a place in FPCSR, bits 11-0 (R45). -/
@[reducible] def FpFlags (f : Word32) : Prop := f &&& 0xFFFFF000 = 0

theorem and_or_eq_zero {x y m : Word32} (hx : x &&& m = 0) (hy : y &&& m = 0) : (x ||| y) &&& m = 0 := by
  rw [BitVec.and_comm, BitVec.and_or_distrib_left, BitVec.and_comm m, BitVec.and_comm m, hx, hy, BitVec.or_self]

theorem FpFlags.or {f g : Word32} (hf : FpFlags f) (hg : FpFlags g) : FpFlags (f ||| g) := and_or_eq_zero hf hg

theorem FpFlags.flagIf {f : Word32} (hf : FpFlags f) (b : Bool) : FpFlags (flagIf b f) := by
  cases b
  · exact (by decide : FpFlags 0)
  · exact hf

theorem fpInf_flags (f : FpFormat) (neg : Bool) {g : Word32} (h : FpFlags g) : FpFlags (fpInf f neg g).flags :=
  h.or (by decide)

theorem fpZero_flags (f : FpFormat) (neg : Bool) : FpFlags (fpZero f neg 0).flags :=
  (by decide : FpFlags (0 ||| flagZf))

theorem fpNan_flags (f : FpFormat) (b : Bool) : FpFlags (fpNan f b).flags :=
  FpFlags.or (by decide) (FpFlags.flagIf (by decide) b)

theorem fpRound_flags (f : FpFormat) (rm : BitVec 2) (neg : Bool) (m : Nat) (e : Int) :
    FpFlags (fpRound f rm neg m e).flags := by
  unfold fpRound
  extract_lets
  split
  · split
    · exact fpInf_flags f neg (by decide)
    · exact (by decide : FpFlags (flagOvf ||| flagIxf))
  · exact ((FpFlags.flagIf (by decide) _).or (FpFlags.flagIf (by decide) _)).or (FpFlags.flagIf (by decide) _)

theorem fpRoundInt_flags (f : FpFormat) (rm : BitVec 2) (z e : Int) (neg : Bool) :
    FpFlags (fpRoundInt f rm z e neg).flags := by
  unfold fpRoundInt
  split
  · exact fpZero_flags f neg
  · exact fpRound_flags ..

theorem fpSum_flags (f : FpFormat) (rm : BitVec 2) (x y : FpVal) : FpFlags (fpSum f rm x y).flags := by
  cases x with
  | nan s1 => cases y <;> exact fpNan_flags ..
  | inf n1 =>
    cases y with
    | nan s2 => exact fpNan_flags ..
    | inf n2 =>
      unfold fpSum
      simp only
      split
      · exact fpInf_flags f n1 (by decide)
      · exact fpNan_flags ..
    | fin n2 m2 e2 => exact fpInf_flags f n1 (by decide)
  | fin n1 m1 e1 =>
    cases y with
    | nan s2 => exact fpNan_flags ..
    | inf n2 => exact fpInf_flags f n2 (by decide)
    | fin n2 m2 e2 => exact fpRoundInt_flags ..

theorem fpProduct_flags (f : FpFormat) (rm : BitVec 2) (x y : FpVal) : FpFlags (fpProduct f rm x y).flags := by
  unfold fpProduct
  split
  · exact fpNan_flags ..
  · exact fpNan_flags ..
  · exact fpNan_flags ..
  · exact fpInf_flags _ _ (by decide)
  · split
    · exact fpNan_flags ..
    · exact fpInf_flags _ _ (by decide)
  · split
    · exact fpNan_flags ..
    · exact fpInf_flags _ _ (by decide)
  · split
    · exact fpZero_flags ..
    · exact fpRound_flags ..

theorem fpQuotient_flags (f : FpFormat) (rm : BitVec 2) (x y : FpVal) : FpFlags (fpQuotient f rm x y).flags := by
  unfold fpQuotient
  split
  · exact fpNan_flags ..
  · exact fpNan_flags ..
  · exact fpNan_flags ..
  · exact fpNan_flags ..
  · exact fpInf_flags _ _ (by decide)
  · exact fpZero_flags ..
  · split
    · split
      · exact fpNan_flags ..
      · exact fpInf_flags _ _ (by decide)
    · split
      · exact fpZero_flags ..
      · exact fpRound_flags ..

theorem fpFused_flags (f : FpFormat) (rm : BitVec 2) (x y z : FpVal) : FpFlags (fpFused f rm x y z).flags := by
  unfold fpFused
  split
  · exact fpNan_flags ..
  · split
    · exact fpNan_flags ..
    · exact fpSum_flags ..

theorem fpConvert_flags (f : FpFormat) (rm : BitVec 2) (x : FpVal) : FpFlags (fpConvert f rm x).flags := by
  cases x with
  | nan s => exact fpNan_flags ..
  | inf n => exact fpInf_flags f n (by decide)
  | fin n m e =>
    unfold fpConvert
    simp only
    split
    · exact fpZero_flags ..
    · exact fpRound_flags ..

theorem fpToInt_flags {n : Nat} {x : FpVal} {z : Int} {g : Word32} (h : fpToInt n x = some (z, g)) : FpFlags g := by
  cases x with
  | nan s => cases h
  | inf s => cases h
  | fin neg m e =>
    simp only [fpToInt] at h
    split at h
    · cases h; exact FpFlags.flagIf (by decide) _
    · cases h

theorem cmpFlags_flags (x y : FpVal) : FpFlags (cmpFlags x y) := FpFlags.flagIf (by decide) _

theorem cmpFlagsQuiet_flags (x y : FpVal) :
    FpFlags (cmpFlagsQuiet x y) := (cmpFlags_flags x y).or (FpFlags.flagIf (by decide) _)

theorem cmpFlagsOrdered_flags (x y : FpVal) : FpFlags (cmpFlagsOrdered x y) :=
  (cmpFlags_flags x y).or (FpFlags.flagIf (by decide) _)

end Sys2Proof.Machine
end

section
/-! PROOF. What an instruction does before it ends, as one relation with a rule for every operation on the state. -/

namespace Sys2Proof.Machine

/-! ## What an instruction does before it ends -/

/-- What an instruction does before control goes on: registers of the current context, flags, accumulators, FPCSR, what
its data access translates, reads and writes, and the count of free values; nothing else changes. -/
structure InstrWork (s u : State) : Prop where
  /-- Nothing else changes. -/
  eq : u = { s with
    gpr := u.gpr, sr := u.sr, fpcsr := u.fpcsr, maclo := u.maclo, machi := u.machi, fpmaddlo := u.fpmaddlo,
    fpmaddhi := u.fpmaddhi, vmaclo := u.vmaclo, vmachi := u.vmachi, dmmu := u.dmmu, mem := u.mem, resv := u.resv,
    ompic := u.ompic, free := u.free, acc := u.acc }
  /-- The general registers of the other contexts. -/
  gpr : ∀ (c : BitVec 4) (r : RegNo), c ≠ s.ctx → u.gpr.get (gprIndex c r) = s.gpr.get (gprIndex c r)
  /-- Of SR at most F, CY and OV change (R39). -/
  sr : u.sr &&& 0xFFFFF1FF = s.sr &&& 0xFFFFF1FF
  /-- FPCSR bits 31-12 stay (R45). -/
  fpcsr : u.fpcsr &&& 0xFFFFF000 = s.fpcsr &&& 0xFFFFF000
  /-- The data MMU keeps what an access keeps (R269, R275). -/
  dmmu : MmuKept s.cfg.dmmu.htr s.cid s.dmmu u.dmmu
  /-- The canonical form of memory stays. -/
  mem : Memory.wf s.mem = true → Memory.wf u.mem = true
  /-- The canonical form of the OMPIC's slots stays. -/
  ompic : sparseWf emptySlot s.ompic = true → sparseWf emptySlot u.ompic = true

namespace InstrWork

variable {s t u : State}

theorem rfl' (s : State) : InstrWork s s :=
  ⟨rfl, fun _ _ _ => rfl, rfl, rfl, MmuKept.rfl' _ _ _, id, id⟩

theorem cfg (h : InstrWork s u) : u.cfg = s.cfg := by rw [h.eq]

theorem pc (h : InstrWork s u) : u.pc = s.pc := by rw [h.eq]

theorem trans (h1 : InstrWork s t) (h2 : InstrWork t u) : InstrWork s u := by
  obtain ⟨hctx, hcid⟩ := ctx_of_flags h1.cfg h1.sr
  refine ⟨by rw [h2.eq, h1.eq], fun c r hc => ?_, h2.sr.trans h1.sr, h2.fpcsr.trans h1.fpcsr, h1.dmmu.trans ?_,
    fun h => h2.mem (h1.mem h), fun h => h2.ompic (h1.ompic h)⟩
  · exact (h2.gpr c r (hctx ▸ hc)).trans (h1.gpr c r hc)
  · rw [← h1.cfg, ← hcid]; exact h2.dmmu

/-- Work on the registers of the current context alone. -/
theorem ofGpr {s u : State} (heq : u = { s with gpr := u.gpr })
    (hg : ∀ (c : BitVec 4) (r : RegNo), c ≠ s.ctx → u.gpr.get (gprIndex c r) = s.gpr.get (gprIndex c r)) :
    InstrWork s u := by
  refine ⟨by rw [heq], hg, ?_, ?_, ?_, ?_, ?_⟩ <;> rw [heq]
  · exact MmuKept.rfl' _ _ _
  · exact id
  · exact id

/-- Work on the flags of SR alone. -/
theorem ofSr {w : Word32} (h : w &&& 0xFFFFF1FF = s.sr &&& 0xFFFFF1FF) : InstrWork s { s with sr := w } :=
  ⟨rfl, fun _ _ _ => rfl, h, rfl, MmuKept.rfl' _ _ _, id, id⟩

/-- Work on the fields that no claim of this part restricts. -/
theorem ofAside (maclo machi fpmaddlo fpmaddhi : Word32) (vmaclo vmachi : BitVec 64) (resv : Option Nat) (free : Nat)
    (acc : Option Access) :
    InstrWork s { s with
      maclo := maclo, machi := machi, fpmaddlo := fpmaddlo, fpmaddhi := fpmaddhi, vmaclo := vmaclo, vmachi := vmachi,
      resv := resv, free := free, acc := acc } :=
  ⟨rfl, fun _ _ _ => rfl, rfl, rfl, MmuKept.rfl' _ _ _, id, id⟩

/-- Work on memory. -/
theorem ofMem {m : List Host.Cell} {resv : Option Nat} (h : Memory.wf s.mem = true → Memory.wf m = true) :
    InstrWork s { s with mem := m, resv := resv } :=
  ⟨rfl, fun _ _ _ => rfl, rfl, rfl, MmuKept.rfl' _ _ _, h, id⟩

/-- The checks of a data access (R215). -/
theorem ofXlat {k : AccKind} (hk : k ≠ .fetch) (h : XlatFrame k s u) : InstrWork s u := by
  have eq : u = { s with dmmu := u.dmmu, mem := u.mem, resv := u.resv, free := u.free } := by
    have := h.eq
    rwa [h.immu hk] at this
  refine ⟨by rw [eq], fun _ _ _ => by rw [eq], by rw [eq], by rw [eq], h.kept hk, h.wf, ?_⟩
  rw [eq]; exact id

theorem ofSetReg (s : State) (r : RegNo) (v : Word) : InstrWork s (s.setReg r v) :=
  ofGpr rfl fun c r' hc => by
    rw [State.setReg_gpr, Bank.get_set_ne]
    exact fun hi => hc (gprIndex_inj.mp hi).1

theorem ofPutBit (s : State) (b : Bool) {k : Nat} (hk : k < 32) (h : (0xFFFFF1FF : Word32).getLsbD k = false) :
    InstrWork s { s with sr := putBit s.sr k b } := ofSr (putBit_flags _ _ hk h)

theorem setReg (h : InstrWork s u) (r : RegNo) (v : Word) : InstrWork s (u.setReg r v) := h.trans (ofSetReg u r v)

theorem setF (h : InstrWork s u) (b : Bool) : InstrWork s (u.setF b) := h.trans (ofPutBit u b (by decide) (by decide))

theorem setCy (h : InstrWork s u) (b : Bool) : InstrWork s (u.setCy b) := h.trans (ofPutBit u b (by decide) (by decide))

theorem setOv (h : InstrWork s u) (b : Bool) : InstrWork s (u.setOv b) := h.trans (ofPutBit u b (by decide) (by decide))

theorem setMac (h : InstrWork s u) (v : BitVec 64) : InstrWork s (u.setMac v) := h.trans (ofAside ..)

theorem setFpmadd (h : InstrWork s u) (v : BitVec 64) : InstrWork s (u.setFpmadd v) := h.trans (ofAside ..)

theorem drawn (h : InstrWork s u) : InstrWork s u.drawn := h.trans (ofAside ..)

theorem raise (h : InstrWork s u) {f : Word32} (hf : FpFlags f) : InstrWork s (u.raise f) := by
  refine h.trans ⟨rfl, fun _ _ _ => rfl, rfl, ?_, MmuKept.rfl' _ _ _, id, id⟩
  have hf : f &&& 0xFFFFF000 = 0 := hf
  rw [State.raise_fpcsr, BitVec.and_comm, BitVec.and_or_distrib_left, BitVec.and_comm _ f, hf]
  simp [BitVec.and_comm]

theorem setSingle (h : InstrWork s u) (r : RegNo) (v : Word32) : InstrWork s (u.setSingle r v) := by
  unfold State.setSingle
  split <;> exact h.setReg r _

theorem setDouble (h : InstrWork s u) (r : RegNo) (off : BitVec 1) (v : BitVec 64) :
    InstrWork s (u.setDouble r off v) := by
  unfold State.setDouble
  split
  · exact (h.setReg r _).setReg _ _
  · exact h.setReg r v

/-- A word written to a control register of the OMPIC (R913). -/
theorem ofOmpicControl (s : State) (core : Nat) (w : Word32) : InstrWork s (ompicControl s core w) := by
  have slot : ∀ (s : State) core v, InstrWork s (setOmpicSlot s core v) := fun s core v =>
    ⟨rfl, fun _ _ _ => rfl, rfl, rfl, MmuKept.rfl' _ _ _, id, sparseSet_wf _ _ _⟩
  have send : ∀ s : State, InstrWork s (ompicSend s core w) := by
    intro s
    unfold ompicSend
    simp only
    split
    · exact slot _ _ _
    · exact rfl' s
  unfold ompicControl
  simp only
  split <;> split
  · exact (slot _ _ _).trans (send _)
  · exact send _
  · exact slot _ _ _
  · exact rfl' s

/-- A word written in the OMPIC's window; a status register ignores it (R912). -/
theorem ofOmpicStore (s : State) (base pa : Nat) (w : Word32) : InstrWork s (ompicStore s base pa w) := by
  unfold ompicStore
  split
  · exact ofOmpicControl ..
  · exact rfl' s

end InstrWork

end Sys2Proof.Machine
end

section
/-! PROOF. The ways an instruction ends, for every shared operation. -/

namespace Sys2Proof.Machine

/-! ## Data accesses -/

/-- Reading at checked addresses leaves the state, or draws a free value (R911, R912); it raises nothing. -/
theorem readAt_cases (pas : List Nat) (s : State) :
    (∃ bs, readAt pas s = .ok bs s) ∨ (∃ bs, readAt pas s = .ok bs s.drawn) ∨ (∃ r, readAt pas s = .refuse r) := by
  unfold readAt
  split
  · exact .inl ⟨_, rfl⟩
  · exact .inr (.inl ⟨_, rfl⟩)
  · exact .inr (.inr ⟨_, rfl⟩)

theorem noteStore_work (ea : Word) (n : Nat) (v : BitVec 64) (pas : List Nat) (s : State) :
    InstrWork s (noteStore ea n v pas s) := InstrWork.ofAside ..

/-- Writing at checked addresses is work of an instruction, and raises nothing. -/
theorem writeAt_cases (ea : Word) (n : Nat) (v : BitVec 64) (pas : List Nat) (s : State) :
    (∃ u, writeAt ea n v pas s = .ok () u ∧ InstrWork s u) ∨ (∃ r, writeAt ea n v pas s = .refuse r) := by
  unfold writeAt
  split
  · exact .inl ⟨_, rfl, (noteStore_work ..).trans (InstrWork.ofMem fun h => writeBytes_wf _ _ _ h)⟩
  · exact .inl ⟨_, rfl, (InstrWork.ofOmpicStore ..).trans (noteStore_work ..)⟩
  · exact .inr ⟨_, rfl⟩

/-- An access that answers a state has only worked; one that raises an exception raises it in the state before it. -/
structure AccRes.Works {β : Type} (s : State) (r : AccRes β) : Prop where
  /-- The access was made. -/
  ok : ∀ v u, r = .ok v u → InstrWork s u
  /-- The access was undone. -/
  exc : ∀ e u, r = .exc e u → u = s

theorem AccRes.works_refuse {β : Type} (s : State) (x : Refusal) : (AccRes.refuse (α := β) x).Works s :=
  ⟨fun _ _ h => (by cases h), fun _ _ h => (by cases h)⟩

theorem AccRes.works_ok {β : Type} {s u : State} (v : β) (h : InstrWork s u) : (AccRes.ok v u).Works s :=
  ⟨fun _ _ e => by cases e; exact h, fun _ _ e => (by cases e)⟩

theorem AccRes.works_exc {β : Type} (s : State) (x : Exc) : (AccRes.exc (α := β) x s).Works s :=
  ⟨fun _ _ h => (by cases h), fun _ _ h => by cases h; rfl⟩

theorem accessPas_works {k : AccKind} (hk : k ≠ .fetch) (ea : Word) (n : Nat) (s : State) :
    (accessPas k ea n s).Works s :=
  ⟨fun _ _ h => InstrWork.ofXlat hk ((accessPas_frame k ea n s).1 _ _ h), fun _ _ h => accessPas_exc h⟩

theorem loadAt_works (ea : Word) (n : Nat) (s : State) : (loadAt ea n s).Works s := by
  have ha := accessPas_works (k := .load) (by decide) ea n s
  unfold loadAt
  cases h : accessPas .load ea n s with
  | exc e t => rw [ha.exc e t h]; exact AccRes.works_exc s e
  | refuse r => exact AccRes.works_refuse s r
  | ok pas t =>
    have ht := ha.ok pas t h
    rcases readAt_cases pas t with ⟨bs, hr⟩ | ⟨bs, hr⟩ | ⟨r, hr⟩
    · simp only [hr]; exact AccRes.works_ok _ (ht.trans (InstrWork.ofAside ..))
    · simp only [hr]; exact AccRes.works_ok _ (ht.drawn.trans (InstrWork.ofAside ..))
    · simp only [hr]; exact AccRes.works_refuse s r

theorem memRead_works (ea : Word) (n : Nat) (s : State) : (memRead ea n s).Works s := by
  have hl := loadAt_works ea n s
  unfold memRead
  cases h : loadAt ea n s with
  | ok v t => exact AccRes.works_ok _ (hl.ok v t h)
  | exc e t => rw [hl.exc e t h]; exact AccRes.works_exc s e
  | refuse r => exact AccRes.works_refuse s r

theorem memWrite_works (ea : Word) (n : Nat) (v : BitVec 64) (s : State) : (memWrite ea n v s).Works s := by
  have ha := accessPas_works (k := .store) (by decide) ea n s
  unfold memWrite
  cases h : accessPas .store ea n s with
  | exc e t => rw [ha.exc e t h]; exact AccRes.works_exc s e
  | refuse r => exact AccRes.works_refuse s r
  | ok pas t =>
    rcases writeAt_cases ea n v pas t with ⟨u, hw, hu⟩ | ⟨r, hw⟩
    · simp only [hw]; exact AccRes.works_ok _ ((ha.ok pas t h).trans hu)
    · simp only [hw]; exact AccRes.works_refuse s r

theorem endConditional_work (b : Bool) {s u : State} (h : InstrWork s u) : InstrWork s (endConditional b u) :=
  (h.setF b).trans (InstrWork.ofAside ..)

theorem conditionalAccess_works (ea : Word) (v : BitVec 64) (s : State) : (conditionalAccess ea v s).Works s := by
  have ha := accessPas_works (k := .store) (by decide) ea 4 s
  unfold conditionalAccess
  cases h : accessPas .store ea 4 s with
  | exc e t => rw [ha.exc e t h]; exact AccRes.works_exc s e
  | refuse r => exact AccRes.works_refuse s r
  | ok pas t =>
    have ht := ha.ok pas t h
    simp only [conditionalStore]
    split
    · rcases writeAt_cases ea 4 v pas t with ⟨u, hw, hu⟩ | ⟨r, hw⟩
      · simp only [hw]; exact AccRes.works_ok _ (endConditional_work true (ht.trans hu))
      · simp only [hw]; exact AccRes.works_refuse s r
    · exact AccRes.works_ok _ (endConditional_work false ht)

/-! ## How an instruction ends -/

/-- The ways an instruction ends: it completes and writes special-purpose registers, raises an exception before it has
worked, raises one with its result written, jumps, or returns from an exception. -/
inductive Ended (s : State) : State → Prop where
  /-- It completes; l.mtspr and a custom instruction then write registers (R400, R556, R580). -/
  | done {u : State} (h : InstrWork s u) (l : List (BitVec 16 × Word)) :
      Ended s (l.foldl (fun t p => writeSpr t p.1 p.2) (advance u))
  /-- It raises an exception and does nothing else (R215, R322, R883). -/
  | raised (e : Exc) (a : Word) (ea : Option Word) : Ended s (enter e a ea s)
  /-- It raises an exception with its result written (R401, R602, R884). -/
  | trapped {u : State} (h : InstrWork s u) (e : Exc) (a : Word) (causes : Word32) :
      Ended s (enter e a none (executed (u.recordCauses causes)))
  /-- It jumps, at once or after the delay slot (R530). -/
  | jumped {u : State} (h : InstrWork s u) {p : Word} {d : Option Word} (hp : trunc s.cfg p = p)
      (hd : ∀ a, d = some a → trunc s.cfg a = a) (hn : s.cfg.nd = true → d = none) :
      Ended s { u with ppc := s.pc, pc := p, ds := d }
  /-- It returns from an exception, in supervisor mode (R553, D48). -/
  | returned (h : s.sm = true) : Ended s (returnFromExc s)

/-- If this answer is a next state, the instruction that started in `s` has ended in one of the ways. -/
structure Ends (s : State) (o : Out State) : Prop where
  /-- Every next state is one of them. -/
  ended : ∀ t, o = .next t → Ended s t

section
variable {s u : State}

theorem ends_next {t : State} (h : Ended s t) : Ends s (.next t) := ⟨fun _ e => by cases e; exact h⟩

theorem ends_refused (r : Refusal) : Ends s (.refused r) := ⟨fun _ e => by cases e⟩

theorem ends_advance (h : InstrWork s u) : Ends s (.next (advance u)) := ends_next (.done h [])

theorem ends_raised (e : Exc) (a : Word) (ea : Option Word) :
    Ends s (.next (enter e a ea s)) := ends_next (.raised e a ea)

theorem ends_gate {i : Instr} {run : Out State} (h : Ends s run) : Ends s (gate i s run) := by
  rcases gate_cases i s run with ⟨-, hg⟩ | ⟨-, -, hg⟩ | ⟨-, hg⟩ <;> rw [hg]
  · exact h
  · exact ends_raised ..
  · exact ends_raised ..

theorem ends_finishArith (h : InstrWork s u) (causes : Word32) (ov : Bool) : Ends s (finishArith causes ov u) := by
  rcases finishArith_cases causes ov u with ⟨-, hf⟩ | ⟨-, hf⟩ <;> rw [hf]
  · exact ends_advance h
  · exact ends_next (.trapped h ..)

theorem recordCauses_zero (s : State) : s.recordCauses 0 = s := by
  unfold State.recordCauses enabledCauses
  simp

theorem ends_trapped (h : InstrWork s u) (e : Exc) (a : Word) : Ends s (.next (enter e a none (executed u))) := by
  rw [← recordCauses_zero u]
  exact ends_next (.trapped h e a 0)

theorem ends_finishFp (h : InstrWork s u) {flags : Word32} (hf : FpFlags flags) : Ends s (finishFp flags u) := by
  rcases finishFp_cases flags u with ⟨-, he⟩ | ⟨-, -, he⟩ <;> rw [he]
  · exact ends_advance (h.raise hf)
  · exact ends_trapped (h.raise hf) ..

theorem ends_result (d : RegNo) (v : Word) : Ends s (result d v s) := ends_advance ((InstrWork.rfl' s).setReg d v)

theorem ends_setFlag (b : Bool) : Ends s (setFlag b s) := ends_advance ((InstrWork.rfl' s).setF b)

theorem ends_addInto (d : RegNo) (x y : Word) (cin : Bool) : Ends s (addInto d x y cin s) :=
  ends_finishArith ((((InstrWork.rfl' s).setReg ..).setCy _).setOv _) ..

theorem ends_mulInto (d : RegNo) (x y : Word) : Ends s (mulInto d x y s) :=
  ends_finishArith (((InstrWork.rfl' s).setReg ..).setOv _) ..

theorem divState_work (d : RegNo) (x y : Word) (s : State) : InstrWork s (divState d x y s) := by
  unfold divState
  split
  · exact ((InstrWork.rfl' s).drawn.setReg ..).setOv _
  · exact ((InstrWork.rfl' s).setReg ..).setOv _

theorem divuState_work (d : RegNo) (x y : Word) (s : State) : InstrWork s (divuState d x y s) := by
  unfold divuState
  split
  · exact ((InstrWork.rfl' s).drawn.setReg ..).setCy _
  · exact ((InstrWork.rfl' s).setReg ..).setCy _

theorem ends_macSigned (z : Int) : Ends s (macSigned z s) :=
  ends_finishArith (((InstrWork.rfl' s).setMac _).setOv _) ..

theorem ends_macUnsigned (v : BitVec 64) (cy : Bool) : Ends s (macUnsigned v cy s) :=
  ends_finishArith (((InstrWork.rfl' s).setMac _).setCy _) ..

/-- A jump from a state in which only registers were written (R530, R534). -/
theorem ends_jump (h : InstrWork s u) (taken : Bool) (target : Word) : Ends s (jump taken target u) := by
  have choice : ∀ x y : Word, trunc s.cfg (if taken then trunc u.cfg x else trunc u.cfg y)
      = if taken then trunc u.cfg x else trunc u.cfg y := fun x y => by
    rw [h.cfg]; cases taken <;> exact trunc_trunc ..
  rcases jump_cases taken target u with ⟨-, hj⟩ | ⟨hds, -, hj⟩ | ⟨-, hnd, hj⟩ <;> rw [hj]
  · exact ends_refused _
  · rw [h.pc]
    have := Ended.jumped h (d := u.ds) (choice target (s.pc + 4)) (by simp [hds]) (fun _ => hds)
    exact ends_next this
  · rw [h.pc]
    refine ends_next (.jumped h (by rw [h.cfg]; exact trunc_trunc ..) (fun a ha => ?_) (fun hn => ?_))
    · cases ha; exact choice ..
    · rw [h.cfg, hn] at hnd; cases hnd

theorem ends_run {β : Type} {r : AccRes β} (hr : r.Works s) {ea : Word} {k : β → State → Out State}
    (hk : ∀ v u, InstrWork s u → Ends s (k v u)) : Ends s (r.run ea k) := by
  cases r with
  | ok v t => exact hk v t (hr.ok v t rfl)
  | exc e t =>
    cases hr.exc e t rfl
    exact ends_raised ..
  | refuse x => exact ends_refused x

theorem ends_loadInto (d a : RegNo) (i : BitVec 16) (n : Nat) (ext : BitVec 64 → Word) :
    Ends s (loadInto d a i n ext s) :=
  ends_run (memRead_works ..) fun _ _ h => ends_advance (h.setReg ..)

theorem ends_storeFrom (a b : RegNo) (i : BitVec 16) (n : Nat) : Ends s (storeFrom a b i n s) :=
  ends_run (memWrite_works ..) fun _ _ h => ends_advance h

theorem ends_linkedLoad (d : RegNo) (ea ea' : Word) :
    Ends s ((loadAt ea 4 s).run ea' fun r s' => .next (advance (linkedLoad d r s'))) :=
  ends_run (loadAt_works ..) fun _ _ h => ends_advance ((h.setReg ..).trans (InstrWork.ofAside ..))

theorem ends_conditional (ea ea' : Word) (v : BitVec 64) :
    Ends s ((conditionalAccess ea v s).run ea' fun _ s' => .next (advance s')) :=
  ends_run (conditionalAccess_works ..) fun _ _ h => ends_advance h

theorem ends_resultS (d : RegNo) {r : FpRes} (h : FpFlags r.flags) : Ends s (resultS d r s) :=
  ends_finishFp ((InstrWork.rfl' s).setSingle ..) h

theorem ends_resultD (d : RegNo) (d2 : BitVec 1) {r : FpRes} (h : FpFlags r.flags) : Ends s (resultD d d2 r s) :=
  ends_finishFp ((InstrWork.rfl' s).setDouble ..) h

theorem ends_resultCmp (b : Bool) {flags : Word32} (h : FpFlags flags) : Ends s (resultCmp b flags s) :=
  ends_finishFp ((InstrWork.rfl' s).setF b) h

theorem ends_resultFlag (d : RegNo) (b : Bool) : Ends s (resultFlag d b s) :=
  ends_advance (((InstrWork.rfl' s).setReg ..).setF b)

theorem ends_resultVmac (d : RegNo) (f : Nat → Word32) : Ends s (resultVmac d f s) :=
  ends_advance (((InstrWork.rfl' s).setReg ..).trans (InstrWork.ofAside ..))

/-- A supplied custom instruction works on registers, flags and memory, then writes special-purpose registers (R580). -/
theorem ends_runCustom (i : Instr) : Ends s (runCustom i s) := by
  have regs : ∀ l : List (RegNo × Word), InstrWork s (l.foldl customReg s) := fun l =>
    InstrWork.ofGpr (customRegs_eq l s) fun c r hc => customRegs_frame l s c r fun h => hc h.1
  have bytes : ∀ (l : List Host.Cell) (u : State), InstrWork u (l.foldl foreignWrite u) := fun l u => by
    rw [foreignWrites_eq]; exact InstrWork.ofMem (foreignWrites_wf l u)
  have drawn : ∀ u : State, (advance u).drawn = advance u.drawn := fun u => by rw [advance_eq, advance_eq]; rfl
  unfold runCustom customWrites
  simp only [drawn]
  exact ends_next (.done ((((((regs _).setCy _).setOv _).setF _).trans (bytes _ _)).drawn) _)

end

end Sys2Proof.Machine
end

section
/-! PROOF. The inversion of `exec`: every instruction ends in one of the ways. -/

namespace Sys2Proof.Machine

/-! ## Every instruction ends in one of these ways -/

theorem maddS_flags (a b : RegNo) (s : State) : FpFlags (maddS a b s).flags := fpFused_flags ..

theorem maddD_flags (a b : RegNo) (a2 b2 : BitVec 1) (s : State) : FpFlags (maddD a b a2 b2 s).flags := fpFused_flags ..

theorem ends_muld (a b : RegNo) (s : State) : Ends s (execLMuld a b s) := by
  refine ends_gate ?_
  split
  · exact ends_advance ((InstrWork.rfl' s).setMac _)
  · exact ends_finishArith ((((InstrWork.rfl' s).setMac _).drawn.drawn).setOv _) ..

theorem ends_muldu (a b : RegNo) (s : State) : Ends s (execLMuldu a b s) := by
  refine ends_gate ?_
  split
  · exact ends_advance ((InstrWork.rfl' s).setMac _)
  · exact ends_finishArith ((((InstrWork.rfl' s).setMac _).drawn.drawn).setCy _) ..

theorem ends_rfe (s : State) : Ends s (execLRfe s) := by
  refine ends_gate ?_
  split
  · exact ends_next (.returned ‹_›)
  · exact ends_raised ..

theorem ends_ftoiS (d a : RegNo) (s : State) : Ends s (execLfFtoiS d a s) := by
  refine ends_gate ?_
  split
  · exact ends_finishFp ((InstrWork.rfl' s).setReg ..) (fpToInt_flags ‹_›)
  · exact ends_finishFp ((InstrWork.rfl' s).drawn.setReg ..) (by decide)

theorem ends_ftoiD (d a : RegNo) (d2 a2 : BitVec 1) (s : State) : Ends s (execLfFtoiD d a d2 a2 s) := by
  refine ends_gate ?_
  split
  · exact ends_finishFp ((InstrWork.rfl' s).setDouble ..) (fpToInt_flags ‹_›)
  · exact ends_finishFp ((InstrWork.rfl' s).drawn.setDouble ..) (by decide)

/-- What every instruction does: it works within `InstrWork` and ends as `Ended` says, or has no next state. -/
theorem exec_ends (i : Instr) (s : State) : Ends s (exec i s) := by
  cases i with
  | lAdd | lAddc | lAddi | lAddic => dsimp only [exec]; exact ends_gate (ends_addInto ..)
  | lSub =>
    dsimp only [exec]
    exact ends_gate (ends_finishArith ((((InstrWork.rfl' s).setReg ..).setCy _).setOv _) ..)
  | lAnd | lAndi | lOr | lOri | lXor | lXori | lMovhi | lAdrp | lCmov | lSll | lSlli | lSrl | lSrli | lSra | lSrai
  | lRor | lRori | lExtbs | lExtbz | lExths | lExthz | lExtws | lExtwz | lFf1 | lFl1 | lvAddB | lvAddH | lvAddsB
  | lvAddsH | lvAdduB | lvAdduH | lvAddusB | lvAddusH | lvAnd | lvAvgB | lvAvgH | lvCmpEqB | lvCmpEqH | lvCmpGeB
  | lvCmpGeH | lvCmpGtB | lvCmpGtH | lvCmpLeB | lvCmpLeH | lvCmpLtB | lvCmpLtH | lvCmpNeB | lvCmpNeH | lvMulsH
  | lvMaxB | lvMaxH | lvMinB | lvMinH | lvMergeB | lvMergeH | lvNand | lvNor | lvOr | lvXor | lvPackB | lvPackH
  | lvPacksB | lvPacksH | lvPackusB | lvPackusH | lvPermN | lvUnpackB | lvUnpackH | lvRlB | lvRlH | lvSllB | lvSllH
  | lvSll | lvSrlB | lvSrlH | lvSraB | lvSraH | lvSrl | lvSubB | lvSubH | lvSubsB | lvSubsH | lvSubuB | lvSubuH
  | lvSubusB | lvSubusH =>
    dsimp only [exec]
    exact ends_gate (ends_result ..)
  | lMul | lMuli => dsimp only [exec]; exact ends_gate (ends_mulInto ..)
  | lMulu => dsimp only [exec]; exact ends_gate (ends_finishArith (((InstrWork.rfl' s).setReg ..).setCy _) ..)
  | lMuld => dsimp only [exec]; exact ends_muld ..
  | lMuldu => dsimp only [exec]; exact ends_muldu ..
  | lDiv => dsimp only [exec]; exact ends_gate (ends_finishArith (divState_work ..) ..)
  | lDivu => dsimp only [exec]; exact ends_gate (ends_finishArith (divuState_work ..) ..)
  | lSfeq | lSfne | lSfgtu | lSfgeu | lSfltu | lSfleu | lSfgts | lSfges | lSflts | lSfles | lSfeqi | lSfnei | lSfgtui
  | lSfgeui | lSfltui | lSfleui | lSfgtsi | lSfgesi | lSfltsi | lSflesi =>
    dsimp only [exec]
    exact ends_gate (ends_setFlag _)
  | lLbz | lLbs | lLhz | lLhs | lLwz | lLws | lLd | lLf => dsimp only [exec]; exact ends_gate (ends_loadInto ..)
  | lLwa => dsimp only [exec]; exact ends_gate (ends_linkedLoad ..)
  | lSb | lSh | lSw | lSd => dsimp only [exec]; exact ends_gate (ends_storeFrom ..)
  | lSwa => dsimp only [exec]; exact ends_gate (ends_conditional ..)
  | lBf | lBnf | lJ | lJr => dsimp only [exec]; exact ends_gate (ends_jump (InstrWork.rfl' s) ..)
  | lJal | lJalr => dsimp only [exec]; exact ends_gate (ends_jump ((InstrWork.rfl' s).setReg ..) ..)
  | lNop | lMsync | lPsync | lCsync => dsimp only [exec]; exact ends_gate (ends_advance (InstrWork.rfl' s))
  | lSys => dsimp only [exec]; exact ends_gate (ends_trapped (InstrWork.rfl' s) ..)
  | lTrap => dsimp only [exec]; exact ends_gate (ends_raised ..)
  | lRfe => dsimp only [exec]; exact ends_rfe s
  | lMfspr => dsimp only [exec]; exact ends_gate (ends_advance ((InstrWork.rfl' s).setReg ..))
  | lMtspr => dsimp only [exec]; exact ends_gate (ends_next (.done (InstrWork.rfl' s) [(_, _)]))
  | lMac | lMaci | lMsb => dsimp only [exec]; exact ends_gate (ends_macSigned _)
  | lMacu | lMsbu => dsimp only [exec]; exact ends_gate (ends_macUnsigned ..)
  | lMacrc => dsimp only [exec]; exact ends_gate (ends_advance (((InstrWork.rfl' s).setReg ..).setMac 0))
  | lfAddS | lfSubS => dsimp only [exec]; exact ends_gate (ends_resultS _ (fpSum_flags ..))
  | lfMulS => dsimp only [exec]; exact ends_gate (ends_resultS _ (fpProduct_flags ..))
  | lfDivS => dsimp only [exec]; exact ends_gate (ends_resultS _ (fpQuotient_flags ..))
  | lfItofS => dsimp only [exec]; exact ends_gate (ends_resultS _ (fpRoundInt_flags ..))
  | lfFtoiS => dsimp only [exec]; exact ends_ftoiS ..
  | lfMaddS =>
    dsimp only [exec]
    exact ends_gate (ends_finishFp ((InstrWork.rfl' s).trans (InstrWork.ofAside ..)) (maddS_flags ..))
  | lfSfeqS | lfSfneS | lfSfeqD | lfSfneD =>
    dsimp only [exec]
    exact ends_gate (ends_resultCmp _ (cmpFlagsQuiet_flags ..))
  | lfSfgtS | lfSfgeS | lfSfltS | lfSfleS | lfSfgtD | lfSfgeD | lfSfltD | lfSfleD =>
    dsimp only [exec]
    exact ends_gate (ends_resultCmp _ (cmpFlagsOrdered_flags ..))
  | lfSfueqS | lfSfuneS | lfSfugtS | lfSfugeS | lfSfultS | lfSfuleS | lfSfunS | lfSfueqD | lfSfuneD | lfSfugtD
  | lfSfugeD | lfSfultD | lfSfuleD | lfSfunD =>
    dsimp only [exec]
    exact ends_gate (ends_resultCmp _ (cmpFlags_flags ..))
  | lfCust1S | lfCust1D | lCust1 | lCust2 | lCust3 | lCust4 | lCust5 | lCust6 | lCust7 | lCust8 | lvCust1 | lvCust2
  | lvCust3 | lvCust4 =>
    dsimp only [exec]
    exact ends_gate (ends_runCustom _)
  | lfAddD | lfSubD => dsimp only [exec]; exact ends_gate (ends_resultD _ _ (fpSum_flags ..))
  | lfMulD => dsimp only [exec]; exact ends_gate (ends_resultD _ _ (fpProduct_flags ..))
  | lfDivD => dsimp only [exec]; exact ends_gate (ends_resultD _ _ (fpQuotient_flags ..))
  | lfItofD => dsimp only [exec]; exact ends_gate (ends_resultD _ _ (fpRoundInt_flags ..))
  | lfFtoiD => dsimp only [exec]; exact ends_ftoiD ..
  | lfStodD => dsimp only [exec]; exact ends_gate (ends_advance ((InstrWork.rfl' s).setDouble ..))
  | lfDtosD => dsimp only [exec]; exact ends_gate (ends_resultS _ (fpConvert_flags ..))
  | lfMaddD => dsimp only [exec]; exact ends_gate (ends_finishFp ((InstrWork.rfl' s).setFpmadd _) (maddD_flags ..))
  | lvAllEqB | lvAllEqH | lvAllGeB | lvAllGeH | lvAllGtB | lvAllGtH | lvAllLeB | lvAllLeH | lvAllLtB | lvAllLtH
  | lvAllNeB | lvAllNeH | lvAnyEqB | lvAnyEqH | lvAnyGeB | lvAnyGeH | lvAnyGtB | lvAnyGtH | lvAnyLeB | lvAnyLeH
  | lvAnyLtB | lvAnyLtH | lvAnyNeB | lvAnyNeH =>
    dsimp only [exec]
    exact ends_gate (ends_resultFlag ..)
  | lvMaddsH | lvMsubsH => dsimp only [exec]; exact ends_gate (ends_resultVmac ..)

end Sys2Proof.Machine
end

section
/-! PROOF. The invariant holds at reset and instructions keep it. -/

namespace Sys2Proof.Machine

/-! ## The invariant -/

/-- A field masked on writing has the other bits 0. -/
theorem and_mask_eq_zero (x : Word32) {m n : Word32} (h : m &&& n = 0) : x &&& m &&& n = 0 := by
  rw [BitVec.and_assoc, h]; exact BitVec.and_zero

theorem and_right_zero {x m : Word32} (n : Word32) (h : x &&& m = 0) : x &&& n &&& m = 0 := by
  rw [BitVec.and_assoc, BitVec.and_comm n, ← BitVec.and_assoc, h]; exact BitVec.zero_and

/-- The invariant holds after reset, whatever the configuration (R68, R930). -/
theorem resetOf_inv (c : Config) : (State.resetOf c).Inv where
  mem := rfl
  ompic := rfl
  sr := (legalSr_eq_iff c 0x00008001).mpr ⟨by decide, fun k hk h => by
    have bits : ∀ k < 32, k ≠ 15 → (0x00008001 : Word32).getLsbD k = true → (0x00017E07 : Word32).getLsbD k = true := by
      decide
    exact srMask_getLsbD (bits k (BitVec.lt_of_getLsbD h) hk h) c⟩
  pc := by
    have h100 : trunc c 0x100 = 0x100 := trunc_zext c (0x100 : Word32) (Nat.le_refl _)
    have base : trunc c (if c.hasEvbar then (c.evbarReset &&& 0xFFFFE000).setWidth 64 else 0)
        = if c.hasEvbar then (c.evbarReset &&& 0xFFFFE000).setWidth 64 else 0 := by
      split
      · exact trunc_zext c (c.evbarReset &&& 0xFFFFE000) (Nat.le_refl _)
      · exact trunc_zext c (0 : Word32) (Nat.le_refl _)
    exact (trunc_or c _ _).trans (by rw [h100, base]; rfl)
  ppc := trunc_zext c (0 : Word32) (Nat.le_refl _)
  ds := fun _ h => by cases h
  noSlot := fun _ => rfl
  evbar := and_mask_eq_zero _ (by decide)
  aecr := BitVec.zero_and
  aesr := BitVec.zero_and
  fpcsr := BitVec.zero_and
  pmr := BitVec.zero_and
  picmr := BitVec.and_not_self _

/-- The fields that the invariant speaks of. -/
def invView (s : State) :=
  (s.cfg, s.mem, s.ompic, s.sr, s.pc, s.ppc, s.ds, s.evbar, s.aecr, s.aesr, s.fpcsr, s.pmr, s.picmr)

/-- From `s` to `t` the invariant and the configuration are kept. -/
structure Keeps (s t : State) : Prop where
  /-- The invariant. -/
  inv : s.Inv → t.Inv
  /-- The configuration. -/
  cfg : t.cfg = s.cfg

theorem Keeps.rfl' (s : State) : Keeps s s := ⟨id, rfl⟩

theorem Keeps.trans {s t u : State} (h1 : Keeps s t) (h2 : Keeps t u) : Keeps s u :=
  ⟨fun h => h2.inv (h1.inv h), h2.cfg.trans h1.cfg⟩

/-- What leaves the fields of the invariant keeps it. -/
theorem Keeps.ofView {s t : State} (h : invView t = invView s) : Keeps s t := by
  simp only [invView, Prod.mk.injEq] at h
  obtain ⟨hcfg, hmem, hompic, hsr, hpc, hppc, hds, hevbar, haecr, haesr, hfpcsr, hpmr, hpicmr⟩ := h
  refine ⟨fun i => ?_, hcfg⟩
  constructor
  · rw [hmem]; exact i.mem
  · rw [hompic]; exact i.ompic
  · rw [hcfg, hsr]; exact i.sr
  · rw [hcfg, hpc]; exact i.pc
  · rw [hcfg, hppc]; exact i.ppc
  · rw [hcfg, hds]; exact i.ds
  · rw [hcfg, hds]; exact i.noSlot
  · rw [hevbar]; exact i.evbar
  · rw [haecr]; exact i.aecr
  · rw [haesr]; exact i.aesr
  · rw [hfpcsr]; exact i.fpcsr
  · rw [hpmr]; exact i.pmr
  · rw [hcfg, hpicmr]; exact i.picmr

theorem Keeps.foldl {β : Type} {f : State → β → State} (hf : ∀ s b, Keeps s (f s b)) (l : List β) (s : State) :
    Keeps s (l.foldl f s) := by
  induction l generalizing s with
  | nil => exact Keeps.rfl' s
  | cons b l ih => exact (hf s b).trans (ih _)

/-! ### Instructions keep it -/

section
variable {s u : State}

theorem InstrWork.keeps (h : InstrWork s u) : Keeps s u where
  cfg := h.cfg
  inv i := by
    have sr := legalSr_of_flags h.sr i.sr
    have fpcsr := h.fpcsr.trans i.fpcsr
    have mem := h.mem i.mem
    have ompic := h.ompic i.ompic
    rw [h.eq]
    exact { i with sr := sr, fpcsr := fpcsr, mem := mem, ompic := ompic }

theorem nextPc_trunc (i : s.Inv) : trunc s.cfg s.nextPc = s.nextPc := by
  unfold State.nextPc
  cases h : s.ds with
  | none => exact trunc_trunc ..
  | some a => exact i.ds a h

theorem advance_keeps (s : State) : Keeps s (advance s) where
  cfg := advance_cfg s
  inv i := by
    rw [advance_eq]
    exact { i with pc := nextPc_trunc i, ppc := i.pc, ds := fun _ h => (by cases h), noSlot := fun _ => rfl }

theorem executed_keeps (s : State) : Keeps s (executed s) := ⟨fun i => { i with ppc := i.pc }, rfl⟩

theorem recordCauses_keeps (s : State) (causes : Word32) : Keeps s (s.recordCauses causes) := by
  unfold State.recordCauses
  split
  · exact ⟨fun i => { i with aesr := and_or_eq_zero i.aesr (and_right_zero causes i.aecr) }, rfl⟩
  · exact Keeps.rfl' s

theorem vectorAddr_trunc (s : State) {v : Nat} (hv : v < 16) : trunc s.cfg (vectorAddr s v) = vectorAddr s v := by
  have word : ∀ w : Word32, trunc s.cfg (zext w) = zext w := fun w => trunc_zext s.cfg w (Nat.le_refl _)
  unfold vectorAddr
  rw [trunc_or, trunc_or]
  congr 1
  · congr 1
    · split
      · exact word 0xF0000000
      · exact word 0
    · split
      · exact word _
      · exact word 0
  · have : BitVec.ofNat 64 (v * 0x100) = zext (BitVec.ofNat 32 (v * 0x100)) := by
      apply BitVec.eq_of_toNat_eq
      simp [zext]
      omega
    rw [this]; exact word _

theorem excNumber_lt (e : Exc) : excNumber e < 16 := by cases e <;> decide

theorem enter_keeps (e : Exc) (a : Word) (ea : Option Word) (s : State) : Keeps s (enter e a ea s) := by
  by_cases hd : s.diverts e = true
  · rw [enter_diverted hd]; exact Keeps.ofView rfl
  · rw [enter_eq (by simpa using hd)]
    refine ⟨fun i => { i with sr := ?_, pc := ?_, ds := fun _ h => (by cases h), noSlot := fun _ => rfl }, rfl⟩
    · by_cases hf : s.fastCtx = true
      · simp only [if_pos hf]; exact entrySr_context_legal _ hf i.sr
      · simp only [if_neg hf]; exact entrySr_legal i.sr
    · refine vectorAddr_trunc s ?_
      split <;> exact excNumber_lt _

theorem returnFromExc_keeps (s : State) : Keeps s (returnFromExc s) :=
  ⟨fun i => { i with
    pc := trunc_trunc .., ppc := i.pc, sr := legalSr_legalSr ..
    ds := fun _ h => (by cases h), noSlot := fun _ => rfl },
    rfl⟩

@[simp] theorem invView_setMmu (s : State) (k : AccKind) (m : MmuRegs) : invView (s.setMmu k m) = invView s := by
  simp [invView]

/-- A write of a special-purpose register keeps the bits that the register does not have 0, and PICMR's fixed bits 1. -/
theorem writeReg_keeps (s : State) (r : Spr) (v : Word) : Keeps s (writeReg s r v) := by
  cases r with
  | evbar => exact ⟨fun i => { i with evbar := and_mask_eq_zero _ (by decide) }, rfl⟩
  | aecr => exact ⟨fun i => { i with aecr := and_mask_eq_zero _ (by decide) }, rfl⟩
  | aesr => exact ⟨fun i => { i with aesr := and_mask_eq_zero _ (by decide) }, rfl⟩
  | fpcsr => exact ⟨fun i => { i with fpcsr := and_mask_eq_zero _ (by decide) }, rfl⟩
  | pmr => exact ⟨fun i => { i with pmr := and_mask_eq_zero _ (by decide) }, rfl⟩
  | npc =>
    exact ⟨fun i => { i with pc := trunc_trunc .., ds := fun _ h => (by cases h), noSlot := fun _ => rfl }, rfl⟩
  | sr => exact ⟨fun i => { i with sr := legalSr_legalSr .. }, rfl⟩
  | picmr =>
    have fixed : ∀ x w : Word32, x &&& ~~~(w ||| x) = 0 := fun x w => by
      rw [BitVec.not_or, BitVec.and_comm (~~~w), ← BitVec.and_assoc, BitVec.and_not_self]
      exact BitVec.zero_and
    exact ⟨fun i => { i with picmr := fixed _ _ }, rfl⟩
  | iccr =>
    unfold writeReg
    simp only
    split <;> exact Keeps.ofView rfl
  | mmucr | mmupr | tlbeir | atbmr | atbtr | tlbmr | tlbtr => exact Keeps.ofView (invView_setMmu ..)
  | vr | upr | cpucfgr | dmmucfgr | immucfgr | dccfgr | iccfgr | dcfgr | pccfgr | vr2 | avr | ppc | isr | coreid
  | numcores | cacheBlock => exact Keeps.rfl' s
  | epcr | eear | esr | gpr | dccr | maclo | machi | fpmaddlo | fpmaddhi | vmaclo | vmachi | dvr | dcr | dmr1 | dmr2
  | dwcr0 | dwcr1 | dsr | drr | pccr | pcmr | picsr | ttmr | ttcr => exact Keeps.ofView rfl

theorem writeSpr_keeps (s : State) (a : BitVec 16) (v : Word) : Keeps s (writeSpr s a v) := by
  unfold writeSpr
  split
  · split
    · exact writeReg_keeps ..
    · exact Keeps.rfl' s
  · exact Keeps.rfl' s

/-- However an instruction ends, it keeps the invariant and the configuration. -/
theorem Ended.keeps {t : State} (h : Ended s t) : Keeps s t := by
  cases h with
  | done h l =>
    have writes := Keeps.foldl (f := fun t (p : BitVec 16 × Word) => writeSpr t p.1 p.2)
      (fun t p => writeSpr_keeps t p.1 p.2) l
    exact (h.keeps.trans (advance_keeps _)).trans (writes _)
  | raised e a ea => exact enter_keeps ..
  | trapped h e a causes =>
    exact ((h.keeps.trans (recordCauses_keeps ..)).trans (executed_keeps _)).trans (enter_keeps ..)
  | jumped h hp hd hn =>
    refine ⟨fun i => ?_, h.cfg⟩
    have work := h.keeps.inv i
    have pc := i.pc
    rw [← h.cfg] at hp hd hn pc
    exact { work with pc := hp, ppc := pc, ds := hd, noSlot := hn }
  | returned _ => exact returnFromExc_keeps s

end

end Sys2Proof.Machine
end

section
/-! PROOF. Every step keeps the invariant. -/

namespace Sys2Proof.Machine

/-! ### The units and the environment keep it -/

/-- Counting an event changes the performance counters alone (R160, R161). -/
theorem countEvent_eq (sel : Nat) (sm : Bool) (n : Nat) (s : State) :
    countEvent sel sm n s = { s with pccr := (countEvent sel sm n s).pccr } := by
  have fold : ∀ (l : List (BitVec 3)) (f : State → BitVec 3 → State)
      (_ : ∀ s i, f s i = { s with pccr := (f s i).pccr }) (s : State),
      l.foldl f s = { s with pccr := (l.foldl f s).pccr } := by
    intro l f hf
    induction l with
    | nil => intro s; rfl
    | cons i l ih => intro s; rw [List.foldl_cons, ih, hf]
  unfold countEvent
  split
  · refine fold _ _ (fun s i => ?_) s
    split <;> rfl
  · rfl

@[simp] theorem invView_countEvent (sel : Nat) (sm : Bool) (n : Nat) (s : State) :
    invView (countEvent sel sm n s) = invView s := by
  rw [countEvent_eq]; rfl

@[simp] theorem invView_countUarch (e : UarchEvents) (s : State) : invView (countUarch e s) = invView s := by
  simp [countUarch]

@[simp] theorem invView_countWpEvents (s : State) (sm : Bool) (fired : BitVec 10) :
    invView (countWpEvents s sm fired) = invView s := by
  unfold countWpEvents
  induction List.range 10 generalizing s with
  | nil => rfl
  | cons i l ih => rw [List.foldl_cons, ih, invView_countEvent]

@[simp] theorem invView_countAccess (sm : Bool) (s : State) : invView (countAccess sm s) = invView s := by
  unfold countAccess
  split <;> simp

@[simp] theorem invView_countMiss (sm : Bool) (s : State) : invView (countMiss sm s) = invView s := by
  unfold countMiss
  split <;> simp

@[simp] theorem invView_countWatchpoints (s : State) (fired : BitVec 10) :
    invView (countWatchpoints s fired) = invView s := rfl

@[simp] theorem invView_recordBreak (s : State) (fired : BitVec 10) : invView (recordBreak s fired) = invView s := rfl

@[simp] theorem invView_debugBefore (s : State) : invView (debugBefore s).2 = invView s := by
  unfold debugBefore
  split <;> simp

@[simp] theorem invView_debugAfter (pre : BitVec 10) (pc : Word) (sm branch : Bool) (s : State) :
    invView (debugAfter pre pc sm branch s) = invView s := by
  have pending : ∀ (s : State) b, invView { s with dbgPending := b } = invView s := fun _ _ => rfl
  unfold debugAfter
  split
  · simp only [pending, invView_recordBreak, invView_countWpEvents, invView_countWatchpoints]
  · rfl

@[simp] theorem invView_finishInstr (i : Instr) (pre : BitVec 10) (pc : Word) (sm : Bool) (t : State) :
    invView (finishInstr i pre pc sm t) = invView t := by
  unfold finishInstr
  simp only
  split <;> simp

@[simp] theorem invView_tickTimer (extra : Nat) (s : State) : invView (tickTimer extra s) = invView s := by
  unfold tickTimer
  split
  · split <;> rfl
  · rfl

@[simp] theorem invView_drawn (s : State) : invView s.drawn = invView s := rfl

@[simp] theorem invView_latchEdges (s : State) : invView (latchEdges s) = invView s := rfl

theorem foreignWrite_keeps (s : State) (w : Host.Cell) : Keeps s (foreignWrite s w) :=
  (InstrWork.ofMem (writeByte_wf s.mem w.1 w.2)).keeps

theorem foreignOmpic_keeps (s : State) (w : Nat × Word32) : Keeps s (foreignOmpic s w) := by
  unfold foreignOmpic
  split
  · exact Keeps.rfl' s
  · split
    · exact (InstrWork.ofOmpicControl s w.1 w.2).keeps.trans (Keeps.ofView rfl)
    · exact Keeps.rfl' s

/-- What the environment does before a step (R901 step 1). -/
theorem envStep_keeps (s : State) : Keeps s (envStep s) := by
  unfold envStep
  split
  · exact Keeps.ofView (by simp)
  · rename_i e rest _
    simp only
    have input : Keeps s { s with env := rest, irqIn := e.irq, extWp := e.extWp } := Keeps.ofView rfl
    refine ((input.trans (Keeps.foldl foreignWrite_keeps e.writes _)).trans
      (Keeps.foldl foreignOmpic_keeps e.ompicWrites _)).trans (Keeps.ofView ?_)
    simp

theorem wake_keeps (s : State) : Keeps s (wake s) := by
  unfold wake
  split
  · split
    · exact ⟨fun i => { i with pmr := and_right_zero _ i.pmr }, rfl⟩
    · exact Keeps.rfl' s
  · split
    · exact ⟨fun i => { i with pmr := and_right_zero _ i.pmr }, rfl⟩
    · exact Keeps.rfl' s
  · exact Keeps.rfl' s
  · exact Keeps.rfl' s
  · exact Keeps.rfl' s

theorem resetEvent_keeps (s : State) : Keeps s (resetEvent s) :=
  ⟨fun i => { resetOf_inv s.cfg with mem := i.mem, ompic := i.ompic }, rfl⟩

theorem XlatFrame.keeps {k : AccKind} {s t : State} (h : XlatFrame k s t) : Keeps s t where
  cfg := h.cfg
  inv i := by
    have mem := h.wf i.mem
    rw [h.eq]
    exact { i with mem := mem }

/-- A fetch translates and reads, whether it gives a word or raises an exception (R216). -/
theorem fetchWord_keeps (s : State) :
    (∀ w t, fetchWord s = .ok w t → Keeps s t) ∧ ∀ e t, fetchWord s = .exc e t → Keeps s t := by
  have frame := AccRes.undone_frame (wholePas_frame s .fetch (trunc s.cfg s.pc) 4)
  unfold fetchWord
  simp only
  split
  · cases hp : (wholePas .fetch (trunc s.cfg s.pc) 4 s).undone s with
    | exc x u =>
      refine ⟨fun w t h => (by cases h), fun e t h => ?_⟩
      cases h; exact (frame.2.1 x u hp).keeps
    | refuse r => exact ⟨fun w t h => (by cases h), fun e t h => (by cases h)⟩
    | ok pas u =>
      have hu := (frame.1 pas u hp).keeps
      rcases readAt_cases pas u with ⟨bs, hr⟩ | ⟨bs, hr⟩ | ⟨r, hr⟩ <;> simp only [hr]
      · exact ⟨fun w t h => (by cases h; exact hu), fun e t h => (by cases h)⟩
      · exact ⟨fun w t h => (by cases h; exact hu.trans (Keeps.ofView rfl)), fun e t h => (by cases h)⟩
      · exact ⟨fun w t h => (by cases h), fun e t h => (by cases h)⟩
  · exact ⟨fun w t h => (by cases h), fun e t h => by cases h; exact Keeps.rfl' s⟩

/-! ### A step keeps it -/

theorem runInstr_keeps {i : Instr} {pre : BitVec 10} {s t : State} (h : runInstr i pre s = .next t) : Keeps s t := by
  unfold runInstr at h
  cases he : exec i s with
  | fault f => simp [he] at h
  | refused r => simp [he] at h
  | next u =>
    simp only [he, Host.Outcome.next.injEq] at h
    rw [← h]
    exact ((exec_ends i s).ended u he).keeps.trans (Keeps.ofView (invView_finishInstr ..))

theorem runWord_keeps {w : Word32} {s t : State} (h : runWord w s = .next t) : Keeps s t := by
  unfold runWord at h
  simp only at h
  have before : Keeps s (debugBefore (countEvent 6 s.sm 1 s)).2 := Keeps.ofView (by simp)
  refine before.trans ?_
  split at h
  · split at h
    · exact runInstr_keeps h
    · cases h; exact enter_keeps ..
  · cases h; exact enter_keeps ..

theorem fetchAndRun_keeps {s t : State} (h : fetchAndRun s = .next t) : Keeps s t := by
  unfold fetchAndRun at h
  split at h
  · exact ((fetchWord_keeps s).1 _ _ ‹_›).trans (runWord_keeps h)
  · cases h
    exact (((fetchWord_keeps s).2 _ _ ‹_›).trans (enter_keeps ..)).trans (Keeps.ofView (invView_countMiss ..))
  · cases h

theorem pendingEntry_keeps {s t : State} (h : pendingEntry s = some t) : Keeps s t := by
  unfold pendingEntry at h
  split at h
  · cases h; exact enter_keeps ..
  · split at h
    · cases h; exact enter_keeps ..
    · split at h
      · cases h; exact (enter_keeps .trap s.pc none s).trans (Keeps.ofView rfl)
      · cases h

theorem runCore_keeps {s t : State} (h : runCore s = .next t) : Keeps s t := by
  unfold runCore at h
  split at h
  · cases h; exact pendingEntry_keeps ‹_›
  · exact fetchAndRun_keeps h

theorem beginStep_keeps (s : State) : Keeps s (beginStep s) := by
  have records : Keeps (envStep s) { envStep s with acc := none, exc := none } := Keeps.ofView rfl
  exact ((envStep_keeps s).trans records).trans (wake_keeps _)

/-- Every step keeps the invariant and the configuration. -/
theorem step_keeps {s t : State} (h : step s = .next t) : Keeps s t := by
  unfold step cycle at h
  split at h
  · cases h; exact (envStep_keeps s).trans (resetEvent_keeps _)
  · split at h
    · exact (beginStep_keeps s).trans (runCore_keeps h)
    all_goals
      cases h
      exact beginStep_keeps s

/-- Settles O11: every part of a step keeps the invariant (`Keeps`), an instruction because of `exec_ends`. -/
theorem invariantKeptByStep : Obligations.InvariantKeptByStep := by
  intro s t hs h
  exact ⟨(step_keeps h).inv hs, (step_keeps h).cfg⟩

/-- Settles O10: `resetOf_inv`. -/
theorem invariantAtReset : Obligations.InvariantAtReset := resetOf_inv

end Sys2Proof.Machine
end

section
/-! PROOF. Reset values, and reading back a special-purpose register. -/

namespace Sys2Proof.Machine

/-- Settles O9: the registers hold the constants that `State.resetOf` names, and a bank reads the same everywhere. -/
theorem resetStateValues : Obligations.ResetStateValues := by
  have banks : ∀ n, State.reset.epcr.get n = 0 ∧ State.reset.eear.get n = 0 ∧ State.reset.esr.get n = 0 := fun n =>
    ⟨Bank.get_replicate 0 n, Bank.get_replicate 0 n, Bank.get_replicate 0 n⟩
  exact ⟨by decide, rfl, rfl, rfl, rfl, by decide, rfl, rfl, banks, rfl, rfl, rfl, rfl, rfl, rfl, rfl, rfl, rfl,
    by decide, rfl, by decide⟩

/-! ## Reading back what l.mtspr wrote -/

/-- A supervisor write of a present register that the mode can write is the register's own effect (R556). -/
theorem writeSpr_present {s : State} {a : BitVec 16} {r : Spr} (v : Word) (ha : sprAt a = some r)
    (hp : sprPresent s.cfg r = true) (hw : sprWritable s.sm r = true) : writeSpr s a v = writeReg s r v := by
  simp [writeSpr, ha, hp, hw]

/-- A read of a present register that the mode can read is what the register holds (R555). -/
theorem readSpr_present {s : State} {a : BitVec 16} {r : Spr} (ha : sprAt a = some r) (hp : sprPresent s.cfg r = true)
    (hr : sprReadable s.sm s.sumra r = true) : readSpr s a = trunc s.cfg (readReg s r) := by
  simp [readSpr, ha, hp, hr]

/-- l.mtspr writes the register `rA OR K` names after the instruction has advanced (R556, D14). -/
theorem exec_lMtspr {s : State} {a b : RegNo} {k : BitVec 16} (h : Ready s (.lMtspr a b k)) :
    exec (.lMtspr a b k) s = .next (writeSpr (advance s) (s.sprAddr a k) (s.reg b)) := gate_ready h _

theorem sprAddr_eq (s : State) (a : RegNo) (k : BitVec 16) : s.sprAddr a k = (s.reg a).extractLsb' 0 16 ||| k := by
  unfold State.sprAddr
  rw [BitVec.setWidth_eq_extractLsb' (by decide)]

/-- A register whose write leaves SR reads, in supervisor mode, as what the write made it hold. -/
theorem readSpr_writeReg {s : State} {x : BitVec 16} {r : Spr} {v : Word} (hx : sprAt x = some r)
    (hp : sprPresent s.cfg r = true) (hsm : s.sm = true) (hsr : (writeReg s r v).sr = s.sr)
    (hr : ∀ sumra, sprReadable true sumra r = true) :
    readSpr (writeReg s r v) x = trunc s.cfg (readReg (writeReg s r v) r) := by
  have hcfg := (writeReg_keeps s r v).cfg
  have sm : (writeReg s r v).sm = true := by unfold State.sm at *; rw [hsr, hsm]
  rw [readSpr_present hx (by rw [hcfg, hp]) (by rw [sm]; exact hr _), hcfg]

/-- Settles O43: l.mtspr is `writeReg` after the advance, and the register then reads as what it holds. -/
theorem sprReadBack : Obligations.SprReadBack := by
  intro s t a b k x r hx hat hsm hp ready he
  rw [exec_lMtspr ready, sprAddr_eq, ← hx] at he
  have hsm' : (advance s).sm = true := (sm_advance s).trans hsm
  have hp' : sprPresent (advance s).cfg r = true := by rw [advance_cfg]; exact hp
  have written (hw : sprWritable true r = true) : t = writeReg (advance s) r (s.reg b) := by
    rw [writeSpr_present _ hat hp' (by rw [hsm']; exact hw)] at he
    exact (Host.Outcome.next.inj he).symm
  have word : (s.reg b).extractLsb' 0 32 = (s.reg b).setWidth 32 := (BitVec.setWidth_eq_extractLsb' (by decide)).symm
  have word_trunc (c : Config) (w : Word32) : trunc c (zext w) = w.setWidth 64 := trunc_zext _ _ (Nat.le_refl _)
  refine ⟨?_, ?_, ?_, ?_⟩
  · rintro n (rfl | rfl | rfl)
    all_goals
      rw [written rfl, readSpr_writeReg hat hp' hsm' rfl fun _ => rfl]
      simp [readReg, writeReg]
  · intro hr
    rw [word]
    simp only [List.mem_cons, List.not_mem_nil, or_false] at hr
    rcases hr with rfl | rfl | rfl | rfl | rfl | rfl | rfl
    all_goals
      rw [written rfl, readSpr_writeReg hat hp' hsm' rfl fun _ => rfl]
      exact word_trunc _ _
  · intro n hr
    rw [word]
    rcases hr with rfl | rfl
    all_goals
      rw [written rfl, readSpr_writeReg hat hp' hsm' rfl fun _ => rfl]
      simp [readReg, writeReg, word_trunc]
  · rintro rfl
    rw [written rfl]
    simp [writeReg, legalSr]

end Sys2Proof.Machine
end

section
/-! PROOF. Instructions in user mode. -/

namespace Sys2Proof.Machine

/-! ## Instructions in user mode -/

/-- The accumulators and FPCSR may change; nothing else does. -/
def OnlyUserSprs (s t : State) : Prop :=
  t = { s with
    fpcsr := t.fpcsr, maclo := t.maclo, machi := t.machi, fpmaddlo := t.fpmaddlo, fpmaddhi := t.fpmaddhi,
    vmaclo := t.vmaclo, vmachi := t.vmachi }

theorem OnlyUserSprs.trans {s t u : State} (h1 : OnlyUserSprs s t) (h2 : OnlyUserSprs t u) : OnlyUserSprs s u := by
  unfold OnlyUserSprs at *
  rw [h2, h1]

/-- The registers that user mode may write and that hold something are the accumulators and FPCSR (R34). -/
theorem writeReg_user {s : State} {r : Spr} (v : Word) (h : sprWritable false r = true) :
    OnlyUserSprs s (writeReg s r v) := by
  cases r with
  | fpcsr | maclo | machi | fpmaddlo | fpmaddhi | vmaclo | vmachi => rfl
  | cacheBlock => rfl
  | _ => cases h

theorem writeSpr_user {s : State} (a : BitVec 16) (v : Word) (h : s.sm = false) : OnlyUserSprs s (writeSpr s a v) := by
  unfold writeSpr
  split
  · split
    · rename_i r _ hw
      simp only [h, Bool.and_eq_true] at hw
      exact writeReg_user v hw.2
    · rfl
  · rfl

theorem writeSprs_user (l : List (BitVec 16 × Word)) {s : State} (h : s.sm = false) :
    OnlyUserSprs s (l.foldl (fun t p => writeSpr t p.1 p.2) s) := by
  induction l generalizing s with
  | nil => rfl
  | cons p l ih =>
    have first := writeSpr_user p.1 p.2 h
    have sm : (writeSpr s p.1 p.2).sm = false := by rw [first]; exact h
    exact first.trans (ih sm)

theorem Confined.sm {s t : State} (h : Confined s t) : t.sm = s.sm := sm_of_flags h.sr

theorem Confined.ofUserSprs {s t u : State} (h : Confined s t) (hu : OnlyUserSprs t u) : Confined s u := by
  rw [hu]
  exact { h with }

/-- The work of an instruction and a move of the program counter stay within what user mode may change. -/
theorem InstrWork.confined {s u : State} (h : InstrWork s u) (pc ppc : Word) (ds : Option Word) :
    Confined s { u with pc := pc, ppc := ppc, ds := ds } := by
  obtain ⟨heq, gpr, sr, -, dmmu, -, -⟩ := h
  rw [heq]
  exact {
    sr := sr, epcr := rfl, eear := rfl, esr := rfl, evbar := rfl, aecr := rfl, aesr := rfl, dmmu := dmmu, immu := rfl
    caches := ⟨rfl, rfl⟩, dbg := rfl, counters := ⟨rfl, rfl⟩, power := ⟨rfl, rfl⟩
    pic := ⟨rfl, rfl⟩, timer := ⟨rfl, rfl⟩
    cfg := rfl, contexts := gpr }

/-- An instruction that starts in user mode and takes no exception changes nothing that user mode may not write: it
completes with writes of user registers or jumps, since an exception is recorded and l.rfe is illegal (R32, D48). -/
theorem Ended.confined {s t : State} (h : Ended s t) (hs : s.sm = false) (he : t.exc = none) : Confined s t := by
  cases h with
  | @done u h l =>
    have here := h.confined u.nextPc u.pc none
    rw [← advance_eq] at here
    exact here.ofUserSprs (writeSprs_user l (here.sm.trans hs))
  | raised e a ea => rw [enter_exc] at he; cases he
  | trapped h e a causes => rw [enter_exc] at he; cases he
  | jumped h => exact h.confined ..
  | returned h => rw [hs] at h; cases h

theorem user_mode_confined (i : Instr) (s t : State) (hs : s.sm = false) (h : exec i s = .next t) (he : t.exc = none) :
    t.sm = false ∧ Confined s t :=
  have c := ((exec_ends i s).ended t h).confined hs he
  ⟨c.sm.trans hs, c⟩

end Sys2Proof.Machine
end

section
/-! PROOF. Table 4-2: the registers at its addresses and their rights. -/

namespace Sys2Proof.Machine

/-! ## The map of the special-purpose registers -/

/-- An address is its group and its index (R30). -/
theorem sprAddress_toNat (a : BitVec 16) :
    a.toNat = 2048 * (a.extractLsb' 11 5).toNat + (a.extractLsb' 0 11).toNat := by
  have := a.isLt
  simp only [BitVec.extractLsb'_toNat, Nat.shiftRight_eq_div_pow]
  omega

theorem sprGroup_ofNat {g x : Nat} (hg : g < 32) (hx : x < 2048) :
    ((BitVec.ofNat 16 (2048 * g + x)).extractLsb' 11 5).toNat = g ∧
      (BitVec.ofNat 16 (2048 * g + x)).extractLsb' 0 11 = BitVec.ofNat 11 x := by
  constructor
  · simp only [BitVec.extractLsb'_toNat, Nat.shiftRight_eq_div_pow, BitVec.toNat_ofNat]
    omega
  · apply BitVec.eq_of_toNat_eq
    simp only [BitVec.extractLsb'_toNat, Nat.shiftRight_eq_div_pow, BitVec.toNat_ofNat]
    omega

theorem sprAt_system {x : Nat} (hx : x < 2048) : sprAt (BitVec.ofNat 16 x) = sprSystem (BitVec.ofNat 11 x) := by
  obtain ⟨hg, hi⟩ := sprGroup_ofNat (g := 0) (by decide) hx
  rw [Nat.mul_zero, Nat.zero_add] at hg hi
  unfold sprAt
  simp only [hg, hi]

theorem sprAt_dmmu {x : Nat} (hx : x < 2048) :
    sprAt (BitVec.ofNat 16 (0x0800 + x)) = sprMmu .load (BitVec.ofNat 11 x) := by
  obtain ⟨hg, hi⟩ := sprGroup_ofNat (g := 1) (by decide) hx
  unfold sprAt
  simp only [hg, hi]

theorem sprAt_immu {x : Nat} (hx : x < 2048) :
    sprAt (BitVec.ofNat 16 (0x1000 + x)) = sprMmu .fetch (BitVec.ofNat 11 x) := by
  obtain ⟨hg, hi⟩ := sprGroup_ofNat (g := 2) (by decide) hx
  unfold sprAt
  simp only [hg, hi]

/-- The window of the general registers (R25). -/
theorem sprSystem_gpr {n : Nat} (hn : n < 512) :
    sprSystem (BitVec.ofNat 11 (1024 + n)) = some (.gpr (BitVec.ofNat 9 n)) := by
  have hi : (BitVec.ofNat 11 (1024 + n)).toNat = 1024 + n := by rw [BitVec.toNat_ofNat]; omega
  have hr : (BitVec.ofNat 11 (1024 + n)).extractLsb' 0 9 = BitVec.ofNat 9 n := by
    apply BitVec.eq_of_toNat_eq
    simp only [BitVec.extractLsb'_toNat, Nat.shiftRight_zero, BitVec.toNat_ofNat]
    omega
  unfold sprSystem
  rw [hi, hr]
  split
  case h_21 => rw [if_neg (by omega), if_neg (by omega), if_neg (by omega), if_neg (by omega), if_pos (by omega)]
  all_goals omega

/-- The windows of TLB match and translate registers: 128 of each for every way (R105-R107). -/
theorem sprMmu_tlb (side : AccKind) {w n : Nat} (hw : w < 4) (hn : n < 128) :
    sprMmu side (BitVec.ofNat 11 (0x200 + 0x100 * w + n))
      = some (.tlbmr side (tlbIndex (BitVec.ofNat 2 w) (BitVec.ofNat 7 n))) ∧
    sprMmu side (BitVec.ofNat 11 (0x280 + 0x100 * w + n))
      = some (.tlbtr side (tlbIndex (BitVec.ofNat 2 w) (BitVec.ofNat 7 n))) := by
  have window : ∀ t : Nat, t < 2 → ∀ i, i = BitVec.ofNat 11 (0x200 + 0x100 * w + 0x80 * t + n) →
      sprMmu side i = some (if t = 1 then .tlbtr side (tlbIndex (BitVec.ofNat 2 w) (BitVec.ofNat 7 n))
        else .tlbmr side (tlbIndex (BitVec.ofNat 2 w) (BitVec.ofNat 7 n))) := by
    intro t ht i hi
    have hnat : i.toNat = 0x200 + 0x100 * w + 0x80 * t + n := by rw [hi, BitVec.toNat_ofNat]; omega
    have hj : (i - 512).toNat = 0x100 * w + 0x80 * t + n := by
      rw [BitVec.toNat_sub, hnat]
      show (2048 - 512 + (0x200 + 0x100 * w + 0x80 * t + n)) % 2048 = _
      omega
    have hway : (i - 512).extractLsb' 8 2 = BitVec.ofNat 2 w := by
      apply BitVec.eq_of_toNat_eq
      simp only [BitVec.extractLsb'_toNat, hj, Nat.shiftRight_eq_div_pow, BitVec.toNat_ofNat]
      omega
    have hset : (i - 512).extractLsb' 0 7 = BitVec.ofNat 7 n := by
      apply BitVec.eq_of_toNat_eq
      simp only [BitVec.extractLsb'_toNat, hj, Nat.shiftRight_eq_div_pow, BitVec.toNat_ofNat]
      omega
    have hbit : (i - 512).getLsbD 7 = decide (t = 1) := by
      rw [BitVec.getLsbD, hj, Nat.testBit_eq_decide_div_mod_eq, decide_eq_decide]
      omega
    unfold sprMmu
    split
    case h_4 =>
      rw [if_neg (by omega), if_neg (by omega), if_pos (by omega)]
      simp only [hway, hset, hbit, decide_eq_true_eq]
      split <;> rfl
    all_goals omega
  exact ⟨window 0 (by decide) _ rfl, window 1 (by decide) _ (by congr 1; omega)⟩

/-- Table 4-2 names the register at each of its addresses. -/
def SprRow.Holds (row : SprRow) : Prop := ∀ j, j < row.count → sprAt (BitVec.ofNat 16 (row.base + j)) = some (row.reg j)

theorem sprTableSystem_holds : ∀ row ∈ sprTableSystem, row.Holds := by
  simp only [sprTableSystem, List.forall_mem_cons, SprRow.Holds]
  refine ⟨?_, ?_, ?_, ?_, ?_, ?_, ?_, ?_, ?_, ?_, ?_, ?_, ?_, ?_, ?_, ?_, ?_, ?_, ?_, ?_, ?_, ?_, ?_, ?_, ?_, ?_⟩
  case refine_25 =>
    intro j hj
    rw [sprAt_system (by omega)]
    exact sprSystem_gpr hj
  all_goals decide

/-- The rows of an MMU whose addresses `sprMmu` maps. -/
theorem sprTableMmu_holds {b : Nat} {k : AccKind}
    (h : ∀ {x : Nat}, x < 2048 → sprAt (BitVec.ofNat 16 (b + x)) = sprMmu k (BitVec.ofNat 11 x)) :
    ∀ row ∈ sprTableMmu b k, row.Holds := by
  have control : ∀ (x count : Nat) (reg : Nat → Spr), x + count ≤ 16 →
      (∀ j < count, sprMmu k (BitVec.ofNat 11 (x + j)) = some (reg j)) →
      ∀ j < count, sprAt (BitVec.ofNat 16 (b + x + j)) = some (reg j) := by
    intro x count reg hx hr j hj
    rw [Nat.add_assoc, h (by omega)]
    exact hr j hj
  have matchRow : ∀ w < 4, ∀ j < 128, sprAt (BitVec.ofNat 16 (b + (0x200 + 0x100 * w) + j))
      = some (.tlbmr k (tlbIndex (BitVec.ofNat 2 w) (BitVec.ofNat 7 j))) := by
    intro w hw j hj
    rw [Nat.add_assoc, h (by omega)]
    exact (sprMmu_tlb k hw hj).1
  have translateRow : ∀ w < 4, ∀ j < 128, sprAt (BitVec.ofNat 16 (b + (0x280 + 0x100 * w) + j))
      = some (.tlbtr k (tlbIndex (BitVec.ofNat 2 w) (BitVec.ofNat 7 j))) := by
    intro w hw j hj
    rw [Nat.add_assoc, h (by omega)]
    exact (sprMmu_tlb k hw hj).2
  simp only [sprTableMmu, List.forall_mem_cons, SprRow.Holds]
  refine ⟨control 0 1 _ (by decide) ?_, control 1 1 _ (by decide) ?_, control 2 1 _ (by decide) ?_,
    control 4 4 _ (by decide) ?_, control 8 4 _ (by decide) ?_, matchRow 0 (by decide), translateRow 0 (by decide),
    matchRow 1 (by decide), translateRow 1 (by decide), matchRow 2 (by decide), translateRow 2 (by decide),
    matchRow 3 (by decide), translateRow 3 (by decide), List.forall_mem_nil _⟩
  all_goals cases k <;> decide

theorem sprTableUnits_holds : ∀ row ∈ sprTableUnits, row.Holds := by
  simp only [sprTableUnits, List.forall_mem_cons, SprRow.Holds]
  repeat' apply And.intro
  all_goals decide

theorem sprTable_holds : ∀ row ∈ sprTable, row.Holds := by
  simp only [sprTable, List.forall_mem_append]
  exact ⟨⟨⟨sprTableSystem_holds, sprTableMmu_holds sprAt_dmmu⟩, sprTableMmu_holds sprAt_immu⟩, sprTableUnits_holds⟩

/-- A register has the rights that its row of Table 4-2 gives. -/
def SprRow.RightsHold (row : SprRow) : Prop := ∀ j,
  (∀ sumra, sprReadable true sumra (row.reg j) = row.supv.reads true ∧
    sprReadable false sumra (row.reg j) = row.user.reads sumra) ∧
  sprWritable true (row.reg j) = row.supv.writes ∧ sprWritable false (row.reg j) = row.user.writes

theorem sprTable_rights : ∀ row ∈ sprTable, row.RightsHold := by
  simp only [sprTable, sprTableSystem, sprTableMmu, sprTableUnits, List.forall_mem_append, List.forall_mem_cons,
    List.not_mem_nil, false_imp_iff, implies_true, and_true, SprRow.RightsHold]
  repeat' apply And.intro
  all_goals exact fun _ => ⟨fun _ => ⟨rfl, rfl⟩, rfl, rfl⟩

end Sys2Proof.Machine
end

section
/-! PROOF. The addresses outside Table 4-2, and the units its registers belong to. -/

namespace Sys2Proof.Machine

/-- No row of the table covers an address. -/
@[reducible] def Uncovered (table : List SprRow) (a : Nat) : Prop :=
  ∀ row ∈ table, ¬(row.base ≤ a ∧ a < row.base + row.count)

/-- A row of the table, by its place, does not cover the address. -/
theorem Uncovered.row {table : List SprRow} {a : Nat} (h : Uncovered table a) (n : Nat)
    (hn : n < table.length := by decide) :
    ¬(table[n].base ≤ a ∧ a < table[n].base + table[n].count) := h _ (List.getElem_mem hn)

theorem sprSystem_uncovered {i : BitVec 11} (h : Uncovered sprTableSystem i.toNat) : sprSystem i = none := by
  have isr : ¬(21 ≤ i.toNat ∧ i.toNat ≤ 28) := fun c => absurd ⟨c.1, Nat.lt_succ_of_le c.2⟩ (h.row 18)
  have epcr : ¬(32 ≤ i.toNat ∧ i.toNat ≤ 47) := fun c => absurd ⟨c.1, Nat.lt_succ_of_le c.2⟩ (h.row 19)
  have eear : ¬(48 ≤ i.toNat ∧ i.toNat ≤ 63) := fun c => absurd ⟨c.1, Nat.lt_succ_of_le c.2⟩ (h.row 20)
  have esr : ¬(64 ≤ i.toNat ∧ i.toNat ≤ 79) := fun c => absurd ⟨c.1, Nat.lt_succ_of_le c.2⟩ (h.row 21)
  have gpr : ¬(1024 ≤ i.toNat ∧ i.toNat ≤ 1535) := fun c => absurd ⟨c.1, Nat.lt_succ_of_le c.2⟩ (h.row 24)
  unfold sprSystem
  split
  case h_21 => rw [if_neg isr, if_neg epcr, if_neg eear, if_neg esr, if_neg gpr]
  all_goals exact absurd (‹i.toNat = _› ▸ h) (by decide)

theorem sprMmu_uncovered {b : Nat} {k : AccKind} {i : BitVec 11} (h : Uncovered (sprTableMmu b k) (b + i.toNat)) :
    sprMmu k i = none := by
  simp only [Uncovered, sprTableMmu, List.forall_mem_cons] at h
  unfold sprMmu
  split
  case h_4 =>
    rw [if_neg (by omega), if_neg (by omega), if_neg (by omega)]
  all_goals omega

theorem sprAt_uncovered {a : BitVec 16} (h : Uncovered sprTable a.toNat) : sprAt a = none := by
  simp only [Uncovered, sprTable, List.forall_mem_append] at h
  obtain ⟨⟨⟨system, dmmu⟩, immu⟩, units⟩ := h
  rw [sprAddress_toNat a] at system dmmu immu units
  unfold sprAt
  simp only
  generalize a.extractLsb' 0 11 = i at *
  split
  case h_12 => rfl
  all_goals rename_i hg; rw [hg] at system dmmu immu units
  · exact sprSystem_uncovered (by rwa [Nat.mul_zero, Nat.zero_add] at system)
  · exact sprMmu_uncovered dmmu
  · exact sprMmu_uncovered immu
  · split
    case h_7 => rfl
    all_goals exact absurd (‹i.toNat = _› ▸ units) (by decide)
  · split
    case h_5 => rfl
    all_goals exact absurd (‹i.toNat = _› ▸ units) (by decide)
  · split
    case h_7 => rfl
    all_goals exact absurd (‹i.toNat = _› ▸ units) (by decide)
  · have dvr : ¬i.toNat < 8 := fun c => absurd ⟨Nat.le_add_right .., Nat.add_lt_add_left c _⟩ (Uncovered.row units 16)
    have dcr : ¬i.toNat < 16 := fun c =>
      absurd ⟨Nat.add_le_add_left (Nat.le_of_not_lt dvr) _, Nat.add_lt_add_left c _⟩ (Uncovered.row units 17)
    split
    case h_7 => rw [if_neg dvr, if_neg dcr]
    all_goals exact absurd (‹i.toNat = _› ▸ units) (by decide)
  · have pccr : ¬i.toNat < 8 := fun c => absurd ⟨Nat.le_add_right .., Nat.add_lt_add_left c _⟩ (Uncovered.row units 24)
    have pcmr : ¬i.toNat < 16 := fun c =>
      absurd ⟨Nat.add_le_add_left (Nat.le_of_not_lt pccr) _, Nat.add_lt_add_left c _⟩ (Uncovered.row units 25)
    rw [if_neg pccr, if_neg pcmr]
  · rw [if_neg]
    rintro rfl; exact absurd units (by decide)
  · rw [if_neg, if_neg]
    all_goals rintro rfl; exact absurd units (by decide)
  · rw [if_neg, if_neg]
    all_goals rintro rfl; exact absurd units (by decide)

/-- The bits of UPR that say which units are there (R51). -/
theorem uprValue_bits (c : Config) :
    (uprValue c).getLsbD 1 = c.hasDc ∧ (uprValue c).getLsbD 2 = hasInsnCache c ∧ (uprValue c).getLsbD 3 = c.hasDmmu ∧
    (uprValue c).getLsbD 4 = hasInsnMmu c ∧ (uprValue c).getLsbD 5 = c.hasMac ∧ (uprValue c).getLsbD 6 = c.hasDu ∧
    (uprValue c).getLsbD 7 = c.hasPcu ∧ (uprValue c).getLsbD 8 = c.hasPic ∧ (uprValue c).getLsbD 9 = c.hasPm ∧
    (uprValue c).getLsbD 10 = c.hasTt := by
  have one : ∀ b, (boolBit 1 b).getLsbD 0 = b := by decide
  simp only [uprValue, BitVec.getLsbD_append, one, Nat.reduceLT, Nat.reduceSub, reduceIte, Nat.lt_irrefl, and_self]

theorem hasMmu_of_sprMmu {c : Config} {k : AccKind} {i : BitVec 11} {r : Spr} (ha : sprMmu k i = some r)
    (hp : sprPresent c r = true) : hasMmu c k = true := by
  have first {x y : Bool} (h : (x && y) = true) : x = true := (Bool.and_eq_true_iff.mp h).1
  unfold sprMmu at ha
  split at ha
  case h_4 =>
    split at ha
    · cases ha; exact first hp
    · split at ha
      · cases ha; exact first hp
      · split at ha
        · simp only at ha
          split at ha <;> (cases ha; exact first hp)
        · cases ha
  all_goals cases ha; exact first hp

/-- The unit to which a group of special-purpose registers belongs is there (R31, R34). -/
def groupUnit (c : Config) : Nat → Bool
  | 1 => c.hasDmmu
  | 2 => hasInsnMmu c
  | 3 => c.hasDc
  | 4 => hasInsnCache c
  | 6 => c.hasDu
  | 7 => c.hasPcu
  | 8 => c.hasPm
  | 9 => c.hasPic
  | 10 => c.hasTt
  | _ => true

/-- A register is there only with the unit of its group (R31). -/
theorem groupUnit_of_sprPresent {c : Config} {a : BitVec 16} {r : Spr} (ha : sprAt a = some r)
    (hp : sprPresent c r = true) : groupUnit c (a.extractLsb' 11 5).toNat = true := by
  have first {x y : Bool} (h : (x && y) = true) : x = true := (Bool.and_eq_true_iff.mp h).1
  unfold sprAt at ha
  simp only at ha
  split at ha
  case h_12 => cases ha
  all_goals rename_i hg; rw [hg]
  · rfl
  · exact hasMmu_of_sprMmu ha hp
  · exact hasMmu_of_sprMmu ha hp
  · split at ha
    case h_7 => cases ha
    all_goals cases ha; exact first hp
  · split at ha
    case h_5 => cases ha
    all_goals cases ha; exact first hp
  · rfl
  · split at ha
    case h_3 | h_4 => cases ha; exact first hp
    case h_7 =>
      split at ha
      · cases ha; exact first hp
      · split at ha
        · cases ha; exact first hp
        · cases ha
    all_goals cases ha; exact hp
  · split at ha
    · cases ha; exact first hp
    · split at ha
      · cases ha; exact first hp
      · cases ha
  · split at ha
    · cases ha; exact hp
    · cases ha
  · split at ha
    · cases ha; exact hp
    · split at ha
      · cases ha; exact hp
      · cases ha
  · split at ha
    · cases ha; exact hp
    · split at ha
      · cases ha; exact hp
      · cases ha

/-- Settles O12: the rows of Table 4-2 hold group by group, and a user-mode instruction that takes no exception
ends within `Confined`. -/
theorem userModeConfined : Obligations.UserModeConfined := by
  refine ⟨?_, fun a h => sprAt_uncovered h, ?_, ?_, user_mode_confined⟩
  · rintro row hrow j hj r rfl
    exact ⟨sprTable_holds row hrow j hj, sprTable_rights row hrow j⟩
  · intro c a r ha hp p hmem hgroup
    have unit := groupUnit_of_sprPresent ha hp
    obtain ⟨b1, b2, b3, b4, -, b6, b7, b8, b9, b10⟩ := uprValue_bits c
    have group : (a.extractLsb' 11 5).toNat = a.toNat / 2 ^ 11 := by
      have := sprAddress_toNat a
      have := (a.extractLsb' 0 11).isLt
      omega
    rw [group, hgroup] at unit
    simp only [List.mem_cons, List.not_mem_nil, or_false] at hmem
    rcases hmem with rfl | rfl | rfl | rfl | rfl | rfl | rfl | rfl | rfl
    · exact b3.trans unit
    · exact b4.trans unit
    · exact b1.trans unit
    · exact b2.trans unit
    · exact b6.trans unit
    · exact b7.trans unit
    · exact b9.trans unit
    · exact b8.trans unit
    · exact b10.trans unit
  · intro c p hmem
    obtain ⟨-, -, -, -, b5, b6, -, b8, b9, b10⟩ := uprValue_bits c
    simp only [List.mem_cons, List.not_mem_nil, or_false] at hmem
    rcases hmem with rfl | rfl | rfl | rfl | rfl | rfl | rfl | rfl | rfl | rfl | rfl
    · exact b5.symm
    · exact b5.symm
    · exact b6.symm
    · exact b6.symm
    · exact b6.symm
    · exact b6.symm
    · exact b9.symm
    · exact b8.symm
    · exact b8.symm
    · exact b10.symm
    · exact b10.symm

end Sys2Proof.Machine
end

section
/-! PROOF. What the environment does before a step, and a core that executes nothing. -/

namespace Sys2Proof.Machine

/-! ## The timer and the counters -/

/-- The timer's steps change TTMR and TTCR alone (R186). -/
theorem tickTimer_eq (k : Nat) (s : State) :
    tickTimer k s = { s with ttmr := (tickTimer k s).ttmr, ttcr := (tickTimer k s).ttcr } := by
  unfold tickTimer
  split
  · split <;> rfl
  · rfl

/-- The timer stands still in sleep and suspend mode and on a stopped core (R171). -/
theorem tickTimer_still {s : State} (hrun : s.status ≠ .running) (hdoze : s.status ≠ .doze) (k : Nat) :
    tickTimer k s = s := by
  unfold tickTimer
  split
  · split
    · exact absurd ‹_› hrun
    · exact absurd ‹_› hdoze
    all_goals rfl
  · rfl

theorem countEvent_zero (sel : Nat) (sm : Bool) (s : State) : countEvent sel sm 0 s = s := by
  simp [countEvent]

/-- The microarchitecture's events change the performance counters alone (R161). -/
theorem countUarch_eq (e : UarchEvents) (s : State) : countUarch e s = { s with pccr := (countUarch e s).pccr } := by
  have count {sel sm n} {t : State} (h : t = { s with pccr := t.pccr }) :
      countEvent sel sm n t = { s with pccr := (countEvent sel sm n t).pccr } := by
    rw [countEvent_eq, h]
  exact count (count (count (count (count (count rfl)))))

/-- Without events the counters stay. -/
theorem countUarch_none (s : State) :
    countUarch { dds := 0, bs := 0, lsus := 0, ifs := 0, icm := 0, dcm := 0 } s = s := by
  simp only [countUarch, countEvent_zero]

/-! ## Other masters and other cores -/

/-- A byte that no other master writes stays. -/
theorem readByte_foreignWrites {l : List Host.Cell} {s : State} {a : Nat} (hm : Memory.wf s.mem = true)
    (ha : ∀ w ∈ l, w.1 ≠ a) : readByte (l.foldl foreignWrite s).mem a = readByte s.mem a := by
  have unwritten : l.reverse.find? (fun q => q.1 == a) = none :=
    List.find?_eq_none.mpr fun w hw => by simpa using ha w (List.mem_reverse.mp hw)
  rw [foreignWrites_read l s hm, unwritten]

theorem ompicControl_eq (s : State) (core : Nat) (w : Word32) :
    ompicControl s core w = { s with ompic := (ompicControl s core w).ompic } := by
  have send : ∀ t : State, ompicSend t core w = { t with ompic := (ompicSend t core w).ompic } := fun t => by
    unfold ompicSend
    simp only
    split <;> rfl
  unfold ompicControl
  simp only
  split <;> split
  · rw [send]; rfl
  · exact send s
  · rfl
  · rfl

theorem foreignOmpic_eq (s : State) (w : Nat × Word32) :
    foreignOmpic s w = { s with ompic := (foreignOmpic s w).ompic, resv := (foreignOmpic s w).resv } := by
  unfold foreignOmpic
  split
  · rfl
  · split
    · rw [ompicControl_eq]
    · rfl

/-- Other cores change the OMPIC's slots, and can cost the reservation (R231, R913). -/
theorem foreignOmpics_eq (l : List (Nat × Word32)) (s : State) :
    l.foldl foreignOmpic s =
      { s with ompic := (l.foldl foreignOmpic s).ompic, resv := (l.foldl foreignOmpic s).resv } :=
  List.foldlRecOn (motive := fun t => t = { s with ompic := t.ompic, resv := t.resv }) l foreignOmpic rfl
    fun t ht w _ => by rw [foreignOmpic_eq, ht]

/-- The inputs of one step, and the writes of other masters and other cores: `envStep` before the units act. -/
def inputsAct (e : EnvInput) (rest : List EnvInput) (s : State) : State :=
  e.ompicWrites.foldl foreignOmpic
    (e.writes.foldl foreignWrite { s with env := rest, irqIn := e.irq, extWp := e.extWp })

theorem inputsAct_eq (e : EnvInput) (rest : List EnvInput) (s : State) :
    inputsAct e rest s = { s with
      env := rest, irqIn := e.irq, extWp := e.extWp, mem := (inputsAct e rest s).mem
      resv := (inputsAct e rest s).resv, ompic := (inputsAct e rest s).ompic } := by
  unfold inputsAct
  rw [foreignOmpics_eq, foreignWrites_eq]

theorem inputsAct_mem (e : EnvInput) (rest : List EnvInput) (s : State) :
    (inputsAct e rest s).mem =
      (e.writes.foldl foreignWrite { s with env := rest, irqIn := e.irq, extWp := e.extWp }).mem := by
  unfold inputsAct
  rw [foreignOmpics_eq]

/-! ## Step 1 of R901 -/

theorem envStep_nil {s : State} (h : s.env = []) :
    envStep s = latchEdges (tickTimer s.freeWord.toNat s).drawn := by
  unfold envStep
  rw [h]

theorem envStep_cons {s : State} {e : EnvInput} {rest : List EnvInput} (h : s.env = e :: rest) :
    envStep s = latchEdges (countUarch e.events (tickTimer e.ticks (inputsAct e rest s))) := by
  unfold envStep
  rw [h]
  rfl

/-- With an empty list of inputs the environment changes the timer and the latches, and a free value is drawn. -/
theorem envStep_nil_eq {s : State} (h : s.env = []) :
    envStep s = { s with
      ttmr := (envStep s).ttmr, ttcr := (envStep s).ttcr, picLatch := (envStep s).picLatch
      irqSeen := (envStep s).irqSeen, free := (envStep s).free } := by
  rw [envStep_nil h, tickTimer_eq]
  rfl

/-- After the inputs only the timer, the counters and the latches change. -/
theorem envStep_cons_eq {s : State} {e : EnvInput} {rest : List EnvInput} (h : s.env = e :: rest) :
    envStep s = { inputsAct e rest s with
      ttmr := (envStep s).ttmr, ttcr := (envStep s).ttcr, pccr := (envStep s).pccr
      picLatch := (envStep s).picLatch, irqSeen := (envStep s).irqSeen } := by
  rw [envStep_cons h, countUarch_eq, tickTimer_eq]
  rfl

/-- The environment changes the timer, the counters, its inputs, memory, the reservation, the OMPIC's slots and the
count of free values, and last of all the edges are latched (R182, R901). -/
theorem envStep_latches (s : State) : ∃ u, envStep s = latchEdges u ∧
    u = { s with
      ttmr := u.ttmr, ttcr := u.ttcr, pccr := u.pccr, irqIn := u.irqIn, extWp := u.extWp, mem := u.mem
      resv := u.resv, ompic := u.ompic, env := u.env, free := u.free } := by
  cases h : s.env with
  | nil => exact ⟨_, envStep_nil h, by rw [tickTimer_eq]; rfl⟩
  | cons e rest => exact ⟨_, envStep_cons h, by rw [countUarch_eq, tickTimer_eq, inputsAct_eq]⟩

theorem envStep_eq (s : State) : envStep s = { s with
    ttmr := (envStep s).ttmr, ttcr := (envStep s).ttcr, pccr := (envStep s).pccr, picLatch := (envStep s).picLatch
    irqIn := (envStep s).irqIn, irqSeen := (envStep s).irqSeen, extWp := (envStep s).extWp, mem := (envStep s).mem
    resv := (envStep s).resv, ompic := (envStep s).ompic, env := (envStep s).env, free := (envStep s).free } := by
  obtain ⟨u, hu, frame⟩ := envStep_latches s
  rw [hu, frame]
  rfl

theorem envStep_status (s : State) : (envStep s).status = s.status := by rw [envStep_eq]

theorem envStep_pmr (s : State) : (envStep s).pmr = s.pmr := by rw [envStep_eq]

/-- Neither running nor in doze mode, the core's timer stands still (R171). -/
theorem envStep_timer_still {s : State} (hrun : s.status ≠ .running) (hdoze : s.status ≠ .doze) :
    (envStep s).ttmr = s.ttmr ∧ (envStep s).ttcr = s.ttcr := by
  cases h : s.env with
  | nil =>
    rw [envStep_nil h, tickTimer_still hrun hdoze]
    exact ⟨rfl, rfl⟩
  | cons e rest =>
    have inputs := inputsAct_eq e rest s
    have still := tickTimer_still (s := inputsAct e rest s) (by rw [inputs]; exact hrun) (by rw [inputs]; exact hdoze)
    rw [envStep_cons h, still, countUarch_eq, inputs]
    exact ⟨rfl, rfl⟩

/-! ## Steps 1 and 3 of R901: waking up -/

/-- A request of the timer or of an interrupt, which ends doze and sleep mode, masked or not (R171, R897). -/
def wakes (s : State) : Bool := timerRequest s || irqRequest s

theorem wake_of_dozing {s : State} (h : s.status = .doze ∨ s.status = .sleep) :
    wake s = if wakes s then { s with status := .running, pmr := s.pmr &&& 0xFFFFFFCF } else s := by
  unfold wake wakes
  rcases h with h | h <;> simp only [h]

theorem wake_of_not_dozing {s : State} (h : ¬(s.status = .doze ∨ s.status = .sleep)) : wake s = s := by
  unfold wake
  split
  · exact absurd (.inl ‹_›) h
  · exact absurd (.inr ‹_›) h
  all_goals rfl

/-- Doze and sleep mode end on a request, masked or not, and PMR[DME] and PMR[SME] are cleared (R171, R897, D25). -/
theorem beginStep_of_dozing {s : State} (h : s.status = .doze ∨ s.status = .sleep) :
    beginStep s = { envStep s with
      status := if wakes (envStep s) then .running else s.status
      pmr := if wakes (envStep s) then s.pmr &&& 0xFFFFFFCF else s.pmr
      acc := none, exc := none } := by
  have request : wakes { envStep s with acc := none, exc := none } = wakes (envStep s) := rfl
  unfold beginStep
  rw [wake_of_dozing (by rw [← envStep_status s] at h; exact h), request, ← envStep_status s, ← envStep_pmr s]
  split <;> rfl

/-- No request changes a core that runs, is suspended or is stopped. -/
theorem beginStep_of_not_dozing {s : State} (h : ¬(s.status = .doze ∨ s.status = .sleep)) :
    beginStep s = { envStep s with acc := none, exc := none } :=
  wake_of_not_dozing (by rw [← envStep_status s] at h; exact h)

/-- A core that does not run after step 3 of R901 was not running before, and it has not woken up. -/
theorem beginStep_of_idle {s : State} (h : (beginStep s).status ≠ .running) :
    s.status ≠ .running ∧ beginStep s = { envStep s with acc := none, exc := none } := by
  by_cases dozing : s.status = .doze ∨ s.status = .sleep
  · have begun := beginStep_of_dozing dozing
    have asleep : wakes (envStep s) = false := by
      by_contra awake
      rw [Bool.not_eq_false] at awake
      exact h (by rw [begun, awake]; rfl)
    refine ⟨?_, ?_⟩
    · rcases dozing with d | d <;> rw [d] <;> decide
    · simp only [begun, asleep, Bool.false_eq_true, if_false]
      rw [← envStep_status s, ← envStep_pmr s]
  · have begun := beginStep_of_not_dozing dozing
    rw [begun] at h
    exact ⟨envStep_status s ▸ h, begun⟩

/-- A core that does not run after step 3 of R901 does nothing more. -/
theorem step_of_idle {s : State} (hr : resetAsserted s = false) (h : (beginStep s).status ≠ .running) :
    step s = .next (beginStep s) := by
  unfold step cycle
  rw [hr]
  cases hs : (beginStep s).status with
  | running => exact absurd hs h
  | doze | sleep | suspend | stopped => rfl

/-! ## What the environment does, part by part -/

/-- An empty list of inputs leaves the counters, memory, the reservation, the OMPIC and the interrupt lines. -/
theorem envStep_nil_frame {s : State} (h : s.env = []) :
    (envStep s).pccr = s.pccr ∧ (envStep s).mem = s.mem ∧ (envStep s).resv = s.resv ∧
      (envStep s).ompic = s.ompic ∧ (envStep s).irqIn = s.irqIn := by
  rw [envStep_nil_eq h]
  exact ⟨rfl, rfl, rfl, rfl, rfl⟩

/-- The inputs of the step are used up, and what they do not write stays. -/
theorem envStep_cons_frame {s : State} {e : EnvInput} {rest : List EnvInput} (h : s.env = e :: rest) :
    (envStep s).env = rest ∧ (envStep s).irqIn = e.irq
      ∧ (Memory.wf s.mem = true → ∀ a, (∀ w ∈ e.writes, w.1 ≠ a) → readByte (envStep s).mem a = readByte s.mem a)
      ∧ (e.writes = [] → e.ompicWrites = [] → (envStep s).resv = s.resv)
      ∧ (e.ompicWrites = [] → (envStep s).ompic = s.ompic)
      ∧ (e.events = { dds := 0, bs := 0, lsus := 0, ifs := 0, icm := 0, dcm := 0 } →
          (envStep s).pccr = s.pccr) := by
  have eq := envStep_cons_eq h
  have inputs := inputsAct_eq e rest s
  refine ⟨by rw [eq, inputs], by rw [eq, inputs], fun hm a ha => ?_, fun hw ho => ?_, fun ho => ?_, fun he => ?_⟩
  · rw [eq, inputsAct_mem]
    exact readByte_foreignWrites hm ha
  · rw [eq]
    simp only [inputsAct, hw, ho, List.foldl_nil]
  · rw [eq]
    simp only [inputsAct, ho, List.foldl_nil]
    rw [foreignWrites_eq]
  · rw [envStep_cons h, he, countUarch_none, tickTimer_eq, inputs]
    rfl

/-- Settles O7: an idle core's step is `beginStep`, and without a wake-up that is `envStep` with the step's records
empty. -/
theorem idleCoreExecutesNothing : Obligations.IdleCoreExecutesNothing := by
  intro s hr
  refine ⟨fun idle => ?_, ?_, ?_⟩
  · obtain ⟨hrun, begun⟩ := beginStep_of_idle idle
    have done := step_of_idle hr idle
    rw [begun] at done
    refine ⟨_, done, ?_, fun hdoze => envStep_timer_still hrun hdoze, envStep_nil_frame,
      fun e rest => envStep_cons_frame⟩
    conv_lhs => rw [envStep_eq]
  · rintro dozing u rfl
    have begun := beginStep_of_dozing dozing
    refine ⟨by rw [begun]; rfl, by rw [begun]; rfl, by rw [begun]⟩
  · intro off
    have dozing : ¬(s.status = .doze ∨ s.status = .sleep) := by rcases off with h | h <;> simp [h]
    rw [beginStep_of_not_dozing dozing]
    exact envStep_status s

end Sys2Proof.Machine
end

section
/-! PROOF. The tick timer, the interrupt lines, and loads from the OMPIC. -/

namespace Sys2Proof.Machine

/-! ## The tick timer -/

/-- TTCR matches TTMR[TP], as numbers (R186). -/
theorem timerMatch_iff (m c : Word32) : timerMatch (m, c) = true ↔ c.toNat % 2 ^ 28 = m.toNat % 2 ^ 28 := by
  simp [timerMatch, ← BitVec.toNat_inj]

/-- TTMR[M] is bits 31 and 30 (R184). -/
theorem timerModeField_toNat (m : Word32) : (m.extractLsb' 30 2).toNat = m.toNat / 2 ^ 30 := by
  have := m.isLt
  simp [Nat.shiftRight_eq_div_pow]
  omega

/-- IP is set on a match with IE (R186). -/
theorem timerMode_eq (m c : Word32) : timerMode (m, c) =
    if c.toNat % 2 ^ 28 = m.toNat % 2 ^ 28 ∧ m.getLsbD 29 = true then m ||| 0x10000000 else m := by
  simp only [timerMode, Bool.and_eq_true, timerMatch_iff]

/-! ## The interrupt lines -/

/-- A line's level is its bit among the lines (R182, R906, R913). -/
theorem irqLines_getLsbD (s : State) (n : Nat) : (irqLines s).getLsbD n = lineLevel s n := by
  unfold irqLines lineLevel
  cases s.cfg.ompic with
  | none => rfl
  | some o => exact getLsbD_putBit _ _ _ _ o.irq.isLt

/-- PICSR is the level of a level-triggered line and the latch of an edge-triggered one (R181, R182). -/
theorem picStatus_getLsbD (s : State) {n : Nat} (hn : n < 32) :
    (picStatus s).getLsbD n = if s.cfg.picEdge.getLsbD n then s.picLatch.getLsbD n else lineLevel s n := by
  unfold picStatus
  rw [← irqLines_getLsbD]
  simp only [BitVec.getLsbD_or, BitVec.getLsbD_and, BitVec.getLsbD_not, hn, decide_true, Bool.true_and]
  cases s.cfg.picEdge.getLsbD n <;> simp

theorem ne_zero_iff_getLsbD (w : Word32) : w ≠ 0 ↔ ∃ n, w.getLsbD n = true := by
  constructor
  · intro h
    by_contra none
    exact h (BitVec.eq_of_getLsbD_eq fun n _ => by simpa using fun hn => none ⟨n, hn⟩)
  · rintro ⟨n, hn⟩ rfl
    simp at hn

/-- With a PIC the request is an unmasked bit of PICSR (R182, R890). -/
theorem irqRequest_pic {s : State} (h : s.cfg.hasPic = true) :
    irqRequest s = true ↔ ∃ n, (picStatus s).getLsbD n = true ∧ s.picmr.getLsbD n = true := by
  simp only [irqRequest, if_pos h, decide_eq_true_eq, ne_zero_iff_getLsbD, BitVec.getLsbD_and, Bool.and_eq_true]

/-- Without a PIC the request is line 0 (R890). -/
theorem irqRequest_noPic {s : State} (h : s.cfg.hasPic = false) : irqRequest s = lineLevel s 0 := by
  simp only [irqRequest, h, Bool.false_eq_true, if_false, irqLines_getLsbD]

/-- A line that has risen since the edges were last looked for is latched (R182). -/
theorem envStep_picLatch (s : State) {n : Nat} (hn : n < 32) :
    (envStep s).picLatch.getLsbD n = (s.picLatch.getLsbD n || (lineLevel (envStep s) n && !s.irqSeen.getLsbD n)) ∧
      (envStep s).irqSeen.getLsbD n = lineLevel (envStep s) n := by
  obtain ⟨u, hu, frame⟩ := envStep_latches s
  have latch : u.picLatch = s.picLatch := by rw [frame]
  have seen : u.irqSeen = s.irqSeen := by rw [frame]
  have level : lineLevel (latchEdges u) n = (irqLines u).getLsbD n := (irqLines_getLsbD u n).symm
  rw [hu, level, ← latch, ← seen]
  exact ⟨by simp [latchEdges, hn], rfl⟩

/-- Writing 1 to a bit of PICSR clears the latch of an edge-triggered line (R182). -/
theorem writeReg_picsr_getLsbD (s : State) (v : Word) {n : Nat} (hn : n < 32) :
    (writeReg s .picsr v).picLatch.getLsbD n =
      (s.picLatch.getLsbD n && !(s.cfg.picEdge.getLsbD n && v.getLsbD n)) := by
  simp [writeReg, hn, Bool.and_comm]

/-! ## Loads from the OMPIC -/

/-- The four bytes of a word joined are the word (R202). -/
theorem joinBytes_splitBytes_word (w : Word32) : joinBytes (splitBytes 4 (zext w)) = zext w := by
  have value : bytesValue (splitBytes 4 (zext w)) = w.toNat := by
    have := w.isLt
    simp [bytesValue, splitBytes, zext, List.range_succ, Nat.shiftRight_eq_div_pow]
    omega
  rw [joinBytes_eq, value]
  exact BitVec.ofNat_toNat 64 w

/-- A load whose checks succeed at a word of the OMPIC gives that register on a big-endian core, and draws a free value
(R910-R912). -/
theorem loadAt_ompic {ea : Word} {s s' : State} {pas : List Nat} {base : Nat}
    (h : accessPas .load ea 4 s = .ok pas s') (ho : ompicAccess s.cfg pas = some (some base))
    (hle : s.littleEndian = false) :
    loadAt ea 4 s = .ok (pas, zext (ompicLoad s' base (pas.headD 0)))
      { s'.drawn with acc := some { kind := .load, ea := ea, data := zext (ompicLoad s' base (pas.headD 0)) } } := by
  have frame := (accessPas_onlyMmu (by decide) h).frame
  have hc : s'.cfg = s.cfg := by rw [frame]
  have order : s'.drawn.littleEndian = false := by rw [frame]; exact hle
  unfold loadAt readAt
  simp only [h, hc, ho, dataOrder, order, Bool.false_eq_true, if_false, joinBytes_splitBytes_word]

theorem memRead_ompic {ea : Word} {s s' : State} {pas : List Nat} {base : Nat}
    (h : accessPas .load ea 4 s = .ok pas s') (ho : ompicAccess s.cfg pas = some (some base))
    (hle : s.littleEndian = false) :
    memRead ea 4 s = .ok (zext (ompicLoad s' base (pas.headD 0)))
      { s'.drawn with acc := some { kind := .load, ea := ea, data := zext (ompicLoad s' base (pas.headD 0)) } } := by
  unfold memRead
  rw [loadAt_ompic h ho hle]

/-- The fields of an OMPIC status register (R912). -/
theorem ompicLoad_status (s : State) (base core : Nat) (w : Word32) (h : w = ompicLoad s base (base + 8 * core + 4)) :
    w.getLsbD 30 = (ompicSlot s core).pend ∧ w.extractLsb' 16 14 = (ompicSlot s core).src ∧
      w.extractLsb' 0 16 = (ompicSlot s core).data := by
  have offset : base + 8 * core + 4 - base = 8 * core + 4 := by omega
  have status : ¬(8 * core + 4) % 8 = 0 := by omega
  have slot : (8 * core + 4) / 8 = core := by omega
  simp only [ompicLoad, offset, if_neg status, slot] at h
  subst h
  generalize ompicSlot s core = m
  refine ⟨?_, ?_, ?_⟩
  · cases m.pend <;> simp only [BitVec.getLsbD_append] <;> rfl
  · exact (BitVec.extractLsb'_append_eq_of_le (Nat.le_refl 16)).trans BitVec.extractLsb'_append_eq_right
  · exact BitVec.extractLsb'_append_eq_right

/-- A register holds the low word `w`, whatever the loading instruction puts above it. -/
structure LowWord (v : Word) (w : Word32) : Prop where
  /-- Bits 31-0. -/
  eq : v.setWidth 32 = w

theorem LowWord.getLsbD {v : Word} {w : Word32} (h : LowWord v w) {k : Nat} (hk : k < 32) :
    v.getLsbD k = w.getLsbD k := by
  rw [← h.eq, BitVec.getLsbD_setWidth]
  simp [hk]

theorem LowWord.extractLsb' {v : Word} {w : Word32} (h : LowWord v w) {k n : Nat} (hk : k + n ≤ 32) :
    v.extractLsb' k n = w.extractLsb' k n := by
  ext i hi
  rw [BitVec.getElem_extractLsb', BitVec.getElem_extractLsb', h.getLsbD (by omega)]

theorem LowWord.trunc {v : Word} {w : Word32} (h : LowWord v w) (c : Config) : LowWord (trunc c v) w := by
  constructor
  unfold Machine.trunc
  cases c.xlen <;> simp [h.eq]

theorem lowWord_zext (w : Word32) : LowWord (zext w) w := ⟨by simp [zext]⟩

theorem lowWord_sext (c : Config) (w : Word32) : LowWord (sext c ((zext w).setWidth 32)) w := by
  refine LowWord.trunc ⟨?_⟩ c
  rw [(lowWord_zext w).eq]
  ext i hi
  rw [BitVec.getElem_setWidth, BitVec.getLsbD_signExtend, if_pos hi, BitVec.getLsbD_eq_getElem hi]
  simp [show i < 64 by omega]

theorem lowWord_boxSingle (w : Word32) : LowWord (boxSingle (zext w)) w := by
  constructor
  rw [boxSingle, (lowWord_zext w).eq]
  exact BitVec.setWidth_append_eq_right

/-- What a word load from the OMPIC ends in: rD has a value with the low word `w`, the reservation is `resv`, and beyond
what the checks of the access did nothing else changes. -/
structure OmpicLoaded (s s' : State) (d : RegNo) (w : Word32) (resv : Option Nat) (t : State) : Prop where
  /-- The word loaded. -/
  reg : LowWord (t.reg d) w
  /-- SR stays. -/
  sr : t.sr = s.sr
  /-- Control goes on. -/
  goesOn : GoesOn s t
  /-- The other registers stay. -/
  gpr : GprFrame s t [d]
  /-- Memory stays. -/
  mem : MemFrame s' t []
  /-- The reservation. -/
  resv : t.resv = resv
  /-- Nothing else changes. -/
  frame : t = { s' with
    gpr := t.gpr, resv := t.resv, free := t.free, acc := t.acc, pc := t.pc, ppc := t.ppc, ds := t.ds }

/-- rD and perhaps a reservation are written after the access, and control goes on: what every word load from the OMPIC
does. -/
theorem ompicLoaded_advance {s s' u : State} {d : RegNo} {v : Word} {w : Word32} {resv : Option Nat}
    (h : OnlyMmu s s') (hv : LowWord v w)
    (hu : u = { s' with gpr := (s'.setReg d v).gpr, resv := u.resv, free := u.free, acc := u.acc })
    (hr : u.resv = resv) : OmpicLoaded s s' d w resv (advance u) := by
  have cfg : s'.cfg = s.cfg := by rw [h.frame]
  have ctx : s'.ctx = s.ctx := by rw [h.frame]; rfl
  have gpr : s'.gpr = s.gpr := by rw [h.frame]
  have written : (advance u).gpr = (s'.setReg d v).gpr := by rw [advance_gpr, hu]
  have value : (advance u).reg d = trunc s'.cfg v := by
    rw [reg_of_gpr (s := s') (by rw [advance_cfg, hu]) (by rw [ctx_advance, hu]; rfl) d v written, if_pos rfl]
  constructor
  case reg => rw [value]; exact hv.trunc _
  case sr => rw [advance_sr, hu, h.frame]
  case goesOn => exact goesOn_advance (by rw [hu, h.frame]) (by rw [hu, h.frame]) (by rw [hu, h.frame])
  case gpr => exact gprFrame_setReg d v (by rw [written, State.setReg_gpr, cfg, ctx, gpr, State.setReg_gpr])
  case mem => exact memFrame_refl (by rw [advance_mem, hu]) _
  case resv => exact (advance_resv u).trans hr
  case frame => rw [advance_eq, hu]

/-- A load that keeps the reservation reads the OMPIC's word into rD. -/
theorem loadInto_ompic {s s' : State} {d a : RegNo} {i : BitVec 16} {pas : List Nat} {base : Nat}
    {ext : BitVec 64 → Word} (h : accessPas .load (s.addr a i) 4 s = .ok pas s')
    (ho : ompicAccess s.cfg pas = some (some base)) (hle : s.littleEndian = false)
    (hext : ∀ w : Word32, LowWord (ext (zext w)) w) :
    ∃ t, loadInto d a i 4 ext s = .next t ∧
      OmpicLoaded s s' d (ompicLoad s' base (pas.headD 0)) s'.resv t := by
  unfold loadInto
  rw [memRead_ompic h ho hle]
  exact ⟨_, rfl, ompicLoaded_advance (accessPas_onlyMmu (by decide) h) (hext _) rfl rfl⟩

/-- The four word loads at a word of the OMPIC; l.lwa reserves it (R230, R507, R508, R510, R511). -/
theorem exec_load_ompic {s s' : State} {d a : RegNo} {i : BitVec 16} {pas : List Nat} {base : Nat} {j : Instr}
    (h : accessPas .load (s.addr a i) 4 s = .ok pas s') (ho : ompicAccess s.cfg pas = some (some base))
    (hle : s.littleEndian = false) (hj : j = .lLwz d a i ∨ j = .lLws d a i ∨ j = .lLwa d a i ∨ j = .lLf d a i)
    (ready : Ready s j) :
    ∃ t, exec j s = .next t ∧
      OmpicLoaded s s' d (ompicLoad s' base (pas.headD 0))
        (if j = .lLwa d a i then some (pas.headD 0) else s'.resv) t := by
  rcases hj with rfl | rfl | rfl | rfl
  · rw [if_neg (by simp), show exec (.lLwz d a i) s = loadInto d a i 4 id s from gate_ready ready _]
    exact loadInto_ompic h ho hle lowWord_zext
  · rw [if_neg (by simp), show exec (.lLws d a i) s = loadInto d a i 4 (fun v => sext s.cfg (v.setWidth 32)) s from
      gate_ready ready _]
    exact loadInto_ompic h ho hle (lowWord_sext s.cfg)
  · have linked : exec (.lLwa d a i) s = _ := gate_ready ready _
    rw [if_pos rfl, linked, loadAt_ompic h ho hle]
    exact ⟨_, rfl, ompicLoaded_advance (accessPas_onlyMmu (by decide) h) (lowWord_zext _) rfl rfl⟩
  · rw [if_neg (by simp), show exec (.lLf d a i) s = loadInto d a i 4 boxSingle s from gate_ready ready _]
    exact loadInto_ompic h ho hle lowWord_boxSingle

/-- Settles O59: the timer's step and the interrupt lines field by field, and a load from a status register of the OMPIC
as `OmpicLoaded` with that register's word. -/
theorem timerInterruptsAndOmpic : Obligations.TimerInterruptsAndOmpic := by
  refine ⟨fun m c => ⟨timerMode_eq m c, ?_⟩, fun s => ?_, ?_⟩
  · rw [← timerModeField_toNat]
    simp only [timerStep, timerCount]
    generalize (m.extractLsb' 30 2).toNat = mode
    match mode with
    | 0 => rfl
    | 1 => simp only [timerMatch_iff]
    | 2 => simp only [timerMatch_iff]
    | _ + 3 => rfl
  · refine ⟨?_, fun n => picStatus_getLsbD s, irqRequest_pic, irqRequest_noPic, fun n => envStep_picLatch s, ?_⟩
    · simp only [timerRequest, Bool.and_eq_true]
    · rintro v t rfl
      exact ⟨fun n => writeReg_picsr_getLsbD s v, rfl⟩
  · intro s s' d a i pas base core h ho hpa hle j hj ready
    obtain ⟨t, he, loaded⟩ := exec_load_ompic h ho hle hj ready
    rw [hpa] at loaded
    have slot : ompicSlot s' core = ompicSlot s core := by
      rw [(accessPas_onlyMmu (by decide) h).frame]
      rfl
    obtain ⟨pend, src, data⟩ := slot ▸ ompicLoad_status s' base core _ rfl
    exact ⟨t, he, (loaded.reg.getLsbD (by decide)).trans pend, (loaded.reg.extractLsb' (by decide)).trans src,
      (loaded.reg.extractLsb' (by decide)).trans data, loaded.sr, loaded.goesOn, loaded.gpr, loaded.mem, loaded.resv,
      loaded.frame⟩

end Sys2Proof.Machine
end

section
/-! PROOF. Loads and stores whose access raises an exception, and untranslated accesses. -/

namespace Sys2Proof.Machine

/-! ## An access that raises an exception -/

theorem loadInto_exc {d a : RegNo} {i : BitVec 16} {n : Nat} {ext : BitVec 64 → Word} {s s' : State} {x : Exc}
    (h : accessPas .load (s.addr a i) n s = .exc x s') :
    loadInto d a i n ext s = .next (enter x s.pc (some (s.addr a i)) s) := by
  simp only [loadInto, memRead, loadAt_exc h, AccRes.run]

theorem storeFrom_exc {a b : RegNo} {i : BitVec 16} {n : Nat} {s s' : State} {x : Exc}
    (h : accessPas .store (s.addr a i) n s = .exc x s') :
    storeFrom a b i n s = .next (enter x s.pc (some (s.addr a i)) s) := by
  simp only [storeFrom, memWrite_exc h, AccRes.run]

theorem conditionalAccess_exc {ea : Word} {v : BitVec 64} {s s' : State} {x : Exc}
    (h : accessPas .store ea 4 s = .exc x s') : conditionalAccess ea v s = .exc x s := by
  simp only [conditionalAccess, h, accessPas_exc h]

/-- A load or store whose checks raise an exception takes it with EEAR its effective address, and does nothing else (R215,
R864, D36). -/
theorem exec_access_exc {s s' : State} {i : Instr} {k : AccKind} {ea : Word} {n : Nat} {x : Exc} (ready : Ready s i)
    (hi : accessOf s i = some (k, ea, n)) (h : accessPas k ea n s = .exc x s') :
    exec i s = .next (enter x s.pc (some ea) s) := by
  cases i
  case lLbz | lLbs | lLhz | lLhs | lLwz | lLws | lLf | lLd =>
    cases hi
    exact (gate_ready ready _).trans (loadInto_exc h)
  case lSb | lSh | lSw | lSd =>
    cases hi
    exact (gate_ready ready _).trans (storeFrom_exc h)
  case lLwa =>
    cases hi
    exact (gate_ready ready _).trans (by rw [loadAt_exc h]; rfl)
  case lSwa =>
    cases hi
    exact (gate_ready ready _).trans (by rw [conditionalAccess_exc h]; rfl)
  all_goals cases hi

/-- An access that is not aligned raises the alignment exception unless the implementation supports it (R210). -/
theorem accessPas_misaligned {k : AccKind} {ea : Word} {n : Nat} {s : State} (ha : aligned ea n = false)
    (hu : s.cfg.unalignedOk = false) : accessPas k ea n s = .exc .alignment s := by
  simp [accessPas, ha, hu]

/-- Settles O36: the checks raise the alignment exception before anything is translated. -/
theorem misalignedAccess : Obligations.MisalignedAccess := by
  intro s i k ea n ready hi ha hu
  exact exec_access_exc ready hi (accessPas_misaligned ha hu)

/-! ## Accesses without translation -/

/-- Without translation the physical address is the effective one within PA_BITS (R217). -/
theorem physical_plain {s : State} {k : AccKind} (ht : s.translated k = false) (ea : Word) :
    physical s k ea = .ok (plainPa s ea) s := by
  simp [physical, ht, plainPa]

theorem wholePas_plain {s : State} {k : AccKind} (ht : s.translated k = false) (ea : Word) (n : Nat) :
    wholePas k ea n s =
      if validPa s.cfg k (plainPa s ea) then .ok ((List.range n).map fun j => plainPa s ea + j) s
      else .exc .busError s := by
  simp only [wholePas, physical_plain ht]

/-- Byte by byte, the access succeeds at each byte's own address when something answers at every one (D4). -/
theorem bytePas_plain {s : State} {k : AccKind} (ht : s.translated k = false) {as : List Word}
    (hv : ∀ a ∈ as, validPa s.cfg k (plainPa s a) = true) : bytePas k as s = .ok (as.map (plainPa s)) s := by
  induction as with
  | nil => rfl
  | cons a as ih =>
    obtain ⟨ha, has⟩ := List.forall_mem_cons.mp hv
    simp only [bytePas, physical_plain ht, if_pos ha, ih has, List.map_cons]

/-- Settles O35: an aligned operand is checked at its address, an unaligned one byte by byte. -/
theorem plainAccessAddresses : Obligations.PlainAccessAddresses := by
  intro s k ea n hn ht hok hv
  cases ha : aligned ea n with
  | true =>
    have pos : 0 < n := by
      simp only [List.mem_cons, List.not_mem_nil, or_false] at hn
      omega
    simp only [plainPas, ha, if_true] at hv ⊢
    have first : validPa s.cfg k (plainPa s ea) = true :=
      hv _ (List.mem_map.mpr ⟨0, List.mem_range.mpr pos, rfl⟩)
    simp only [accessPas, ha, if_true, wholePas_plain ht, first, AccRes.undone]
  | false =>
    have supported : s.cfg.unalignedOk = true := hok.resolve_left (by simp [ha])
    simp only [plainPas, ha, Bool.false_eq_true, if_false, List.forall_mem_map] at hv ⊢
    simp only [accessPas, ha, Bool.false_eq_true, if_false, supported, if_true, bytePas_plain ht hv, AccRes.undone]

/-- Settles O37: the check of the operand's address fails. -/
theorem absentMemoryBusError : Obligations.AbsentMemoryBusError := by
  intro s i k ea n ready hi ha ht hv
  refine exec_access_exc (s' := s) ready hi ?_
  simp [accessPas, ha, wholePas_plain ht, hv, AccRes.undone]

end Sys2Proof.Machine
end

section
/-! PROOF. The atomic pair: l.lwa reserves the word it loads, l.swa stores where the reservation holds. -/

namespace Sys2Proof.Machine

/-! ## What a data access leaves of the state it starts in -/

theorem OnlyMmu.cfg {s s' : State} (h : OnlyMmu s s') : s'.cfg = s.cfg := by rw [h.frame]

theorem OnlyMmu.gpr {s s' : State} (h : OnlyMmu s s') : s'.gpr = s.gpr := by rw [h.frame]

theorem OnlyMmu.sr {s s' : State} (h : OnlyMmu s s') : s'.sr = s.sr := by rw [h.frame]

theorem OnlyMmu.ctx {s s' : State} (h : OnlyMmu s s') : s'.ctx = s.ctx := by rw [h.frame]; rfl

theorem OnlyMmu.operandByte {s s' : State} (h : OnlyMmu s s') (n : Nat) (v : Word) (j : Nat) :
    operandByte s' n v j = operandByte s n v j := by rw [h.frame]; rfl

theorem OnlyMmu.setReg_gpr {s s' : State} (h : OnlyMmu s s') (d : RegNo) (v : Word) :
    (s'.setReg d v).gpr = (s.setReg d v).gpr := by
  rw [State.setReg_gpr, State.setReg_gpr, h.cfg, h.ctx, h.gpr]

/-- After a data access an instruction that leaves the pc, the pending target and the configuration goes on from where it
stood. -/
theorem OnlyMmu.goesOn {s s' u : State} (h : OnlyMmu s s') (hc : u.cfg = s'.cfg) (hp : u.pc = s'.pc) (hd : u.ds = s'.ds) :
    GoesOn s (advance u) :=
  goesOn_advance (hc.trans h.cfg) (hp.trans (by rw [h.frame])) (hd.trans (by rw [h.frame]))

/-! ## l.lwa -/

/-- l.lwa, its checks passed outside the OMPIC, writes the operand to rD and reserves its first byte's address (R511). -/
theorem exec_lLwa_ok {s s' : State} {d a : RegNo} {i : BitVec 16} {pas : List Nat} (ready : Ready s (.lLwa d a i))
    (h : accessPas .load (s.addr a i) 4 s = .ok pas s') (ho : ompicAccess s.cfg pas = none) :
    ∃ u, exec (.lLwa d a i) s = .next (advance u) ∧
      u = { s' with
        gpr := (s'.setReg d (BitVec.ofNat 64 (operandValue s' pas))).gpr, resv := some (pas.headD 0), acc := u.acc } :=
  ⟨_, (gate_ready ready _).trans (by rw [loadAt_ok h ho]; rfl), rfl⟩

/-- Settles O32: l.lwa writes rD and the reservation in the state its checks leave, and goes on. (The name
`linkedLoad` is the model's.) -/
theorem linkedLoad_holds : Obligations.LinkedLoad := by
  intro s s' d a i pas ready h ho
  have only := accessPas_onlyMmu (by decide) h
  obtain ⟨u, he, hu⟩ := exec_lLwa_ok ready h ho
  have cfg : u.cfg = s'.cfg := by rw [hu]
  have ctx : u.ctx = s'.ctx := by rw [hu]; rfl
  have sr : u.sr = s'.sr := by rw [hu]
  have mem : u.mem = s'.mem := by rw [hu]
  have gpr : (advance u).gpr = (s.setReg d (BitVec.ofNat 64 (operandValue s' pas))).gpr := by
    rw [advance_gpr, hu, only.setReg_gpr]
  refine ⟨_, he, ?_, ?_, ?_, only.goesOn cfg (by rw [hu]) (by rw [hu]), gprFrame_setReg d _ gpr, ?_, only, ?_⟩
  · rw [reg_of_gpr (s := s) ?_ ?_ d _ gpr, if_pos rfl]
    · rfl
    · rw [advance_cfg, cfg, only.cfg]
    · rw [ctx_advance, ctx, only.ctx]
  · rw [advance_resv, hu]
  · rw [advance_sr, sr, only.sr]
  · exact memFrame_refl (by rw [advance_mem, mem]) _
  · rw [advance_eq, hu]

/-! ## l.swa -/

/-- l.swa whose reservation is gone after the checks clears SR[F] and stores nothing (R232). -/
theorem conditionalAccess_lost {ea : Word} {v : BitVec 64} {s s' : State} {pas : List Nat}
    (h : accessPas .store ea 4 s = .ok pas s') (hr : s'.resv ≠ some (pas.headD 0)) :
    conditionalAccess ea v s = .ok () { s' with sr := putBit s'.sr 9 false, resv := none } := by
  have lost : reserved pas s' = false := decide_eq_false hr
  simp only [conditionalAccess, h, conditionalStore, lost, Bool.false_eq_true, if_false]
  rfl

/-- l.swa whose reservation holds after the checks sets SR[F] and stores its word outside the OMPIC (R232). -/
theorem conditionalAccess_held {ea : Word} {v : BitVec 64} {s s' : State} {pas : List Nat}
    (h : accessPas .store ea 4 s = .ok pas s') (hr : s'.resv = some (pas.headD 0)) (ho : ompicAccess s.cfg pas = none) :
    ∃ acc, conditionalAccess ea v s = .ok ()
      { s' with
        mem := writeBytes s'.mem pas (dataOrder s' (splitBytes 4 v)), sr := putBit s'.sr 9 true, resv := none
        acc := acc } := by
  have held : reserved pas s' = true := decide_eq_true hr
  simp only [conditionalAccess, h, conditionalStore, held, if_true, writeAt_ok ((accessPas_onlyMmu (by decide) h).cfg ▸ ho)]
  exact ⟨_, rfl⟩

theorem exec_lSwa_ok {s u : State} {a b : RegNo} {i : BitVec 16} (ready : Ready s (.lSwa a b i))
    (h : conditionalAccess (s.addr a i) (s.reg b) s = .ok () u) : exec (.lSwa a b i) s = .next (advance u) :=
  (gate_ready ready _).trans (by rw [h]; rfl)

/-- Settles O34: the word is stored in the state the checks leave, or nothing is; what translation changed leaves the byte
order and SR as they were. (The name `conditionalStore` is the model's.) -/
theorem conditionalStore_holds : Obligations.ConditionalStore := by
  intro s s' a b i pas wf ready h ho
  have only := accessPas_onlyMmu (by decide) h
  have wf' := accessPas_wf h wf
  have length := accessPas_length h
  by_cases hr : s'.resv = some (pas.headD 0)
  · obtain ⟨acc, stored⟩ := conditionalAccess_held (v := s.reg b) h hr (ho.resolve_right (not_not_intro hr))
    refine ⟨_, exec_lSwa_ok ready stored, advance_resv _, only.goesOn rfl rfl rfl,
      gprFrame_refl (by rw [advance_gpr, only.gpr]) _, only, fun _ => ⟨?_, fun p hp => ?_, fun distinct j p hj => ?_⟩,
      fun hn => absurd hr hn, by rw [advance_eq]⟩
    · rw [advance_sr, only.sr]
    · rw [advance_mem]
      exact readByte_writeBytes_of_notMem _ _ _ _ wf' hp
    · have bound : j < 4 := length ▸ (List.getElem?_eq_some_iff.mp hj).1
      rw [advance_mem, ← only.operandByte]
      exact readByte_writeBytes_getElem _ _ _ _ _ _ wf' distinct hj (dataOrder_getElem _ 4 _ j bound)
  · refine ⟨_, exec_lSwa_ok ready (conditionalAccess_lost h hr), advance_resv _, only.goesOn rfl rfl rfl,
      gprFrame_refl (by rw [advance_gpr, only.gpr]) _, only, fun hn => absurd hn hr,
      fun _ => ⟨?_, memFrame_refl (advance_mem _) _⟩, by rw [advance_eq]⟩
    rw [advance_sr, only.sr]

end Sys2Proof.Machine
end

section
/-! PROOF. The MMU on XLEN = 32: the fields of its registers as numbers, which entry hits, and the address it forms. -/

namespace Sys2Proof.Machine

/-! ## Fields of registers as numbers -/

/-- A field of a bit vector as a number. -/
theorem toNat_extractLsb' {m : Nat} (x : BitVec m) (start n : Nat) :
    (x.extractLsb' start n).toNat = x.toNat / 2 ^ start % 2 ^ n := by
  rw [BitVec.extractLsb'_toNat, Nat.shiftRight_eq_div_pow]

/-- A page number that ends at the top of a 32-bit register against the same bits of an address. -/
theorem pageNumber_eq_iff (x : Word32) (y : Word) (start n : Nat) (h : start + n = 32) :
    x.extractLsb' start n = y.extractLsb' start n ↔ x.toNat / 2 ^ start = y.toNat / 2 ^ start % 2 ^ n := by
  have top : x.toNat / 2 ^ start < 2 ^ n := by
    rw [Nat.div_lt_iff_lt_mul (Nat.two_pow_pos _), ← Nat.pow_add, Nat.add_comm n, h]
    exact x.isLt
  rw [← BitVec.toNat_inj, toNat_extractLsb', toNat_extractLsb', Nat.mod_eq_of_lt top]

/-- Bit vectors side by side as a number. -/
theorem toNat_append_add {m n : Nat} (x : BitVec m) (y : BitVec n) : (x ++ y).toNat = x.toNat * 2 ^ n + y.toNat := by
  rw [BitVec.toNat_append, ← Nat.shiftLeft_add_eq_or_of_lt y.isLt, Nat.shiftLeft_eq]

/-- The bits of a register under a mask of `n` ones from bit `start` on. -/
theorem toNat_and_mask (x m : Word32) (start n : Nat) (hm : m.toNat = (2 ^ n - 1) <<< start) :
    (x &&& m).toNat = x.toNat / 2 ^ start % 2 ^ n * 2 ^ start := by
  rw [BitVec.toNat_and, hm, ← Nat.and_two_pow_sub_one_eq_mod, ← Nat.shiftRight_eq_div_pow, ← Nat.shiftLeft_eq]
  refine Nat.eq_of_testBit_eq fun j => ?_
  simp only [Nat.testBit_and, Nat.testBit_shiftLeft, Nat.testBit_shiftRight]
  by_cases hj : start ≤ j
  · simp [hj]
  · simp [hj]

/-- Two fields that do not overlap add up. -/
theorem toNat_or_add (x y : Word32) (n : Nat) (hx : x.toNat % 2 ^ n = 0) (hy : y.toNat < 2 ^ n) :
    (x ||| y).toNat = x.toNat + y.toNat := by
  rw [BitVec.toNat_or, ← Nat.div_mul_cancel (Nat.dvd_of_mod_eq_zero hx), Nat.mul_comm, Nat.two_pow_add_eq_or_of_lt hy]

/-! ## Which entry hits -/

/-- The set an address selects, as NTS bits of its page number (R262). -/
theorem tlbSet_eq (g : MmuConfig) (ea : Word) : tlbSet g ea = setOf g ea := by
  have mask : ∀ n : BitVec 3, (1#7 <<< n.toNat - 1).toNat = 2 ^ n.toNat - 1 := by decide
  have small : 2 ^ g.nts.toNat ≤ 2 ^ 7 := Nat.pow_le_pow_right (by decide) (by omega)
  have low : ∀ n, ea.toNat / 2 ^ 13 % 2 ^ 7 % 2 ^ g.nts.toNat = n → ea.toNat / 2 ^ 13 % 2 ^ g.nts.toNat = n := fun n h => by
    rwa [Nat.mod_mod_of_dvd _ (Nat.pow_dvd_pow 2 (by omega))] at h
  apply BitVec.eq_of_toNat_eq
  rw [tlbSet, setOf, BitVec.toNat_and, mask, Nat.and_two_pow_sub_one_eq_mod, BitVec.toNat_ofNat,
    BitVec.toNat_setWidth, BitVec.toNat_ushiftRight, Nat.shiftRight_eq_div_pow, ← low _ rfl]
  exact (Nat.mod_eq_of_lt (Nat.lt_of_lt_of_le (Nat.mod_lt _ (Nat.two_pow_pos _)) small)).symm

/-- On XLEN = 32 a TLB entry matches by its valid bit, context and page number alone (R263). -/
theorem tlbMatches_x32 {c : Config} (hc : c.xlen = .x32) (cid : BitVec 4) (mr : Word32) (high : BitVec 14) (ea : Word) :
    tlbMatches c cid mr high ea = true ↔
      mr.getLsbD 0 = true ∧ mr.toNat / 4 % 16 = cid.toNat ∧
      (mr.getLsbD 1 = false → mr.toNat / 2 ^ 13 = ea.toNat / 2 ^ 13 % 2 ^ 19) ∧
      (mr.getLsbD 1 = true → mr.toNat / 2 ^ 24 = ea.toNat / 2 ^ 24 % 2 ^ 8) := by
  have context : mr.extractLsb' 2 4 = cid ↔ mr.toNat / 4 % 16 = cid.toNat := by
    rw [← BitVec.toNat_inj, toNat_extractLsb']
    rfl
  have small := pageNumber_eq_iff mr ea 13 19 rfl
  have large := pageNumber_eq_iff mr ea 24 8 rfl
  simp only [tlbMatches, highPageMatches, hc, Bool.and_true, Bool.and_eq_true, decide_eq_true_eq, context, and_assoc]
  cases mr.getLsbD 1
  case false => simp only [Bool.false_eq_true, if_false, decide_eq_true_eq, small, true_implies, false_implies, and_true]
  case true => simp only [if_true, decide_eq_true_eq, large, true_implies, Bool.true_eq_false, false_implies, true_and]

/-- On XLEN = 32 an ATB entry matches by its valid bit, context and 16 MByte page number (R267). -/
theorem atbMatches_x32 {c : Config} (hc : c.xlen = .x32) (cid : BitVec 4) (mr : Word32) (high : BitVec 14) (ea : Word) :
    atbMatches c cid mr high ea = true ↔
      mr.getLsbD 0 = true ∧ mr.toNat / 2 % 16 = cid.toNat ∧ mr.getLsbD 5 = false ∧
      mr.toNat / 2 ^ 24 = ea.toNat / 2 ^ 24 % 2 ^ 8 := by
  have context : mr.extractLsb' 1 4 = cid ↔ mr.toNat / 2 % 16 = cid.toNat := by
    rw [← BitVec.toNat_inj, toNat_extractLsb']
    rfl
  have large := pageNumber_eq_iff mr ea 24 8 rfl
  simp only [atbMatches, highPageMatches, hc, Bool.and_true, Bool.and_eq_true, decide_eq_true_eq, context, and_assoc]
  cases mr.getLsbD 5
  case false => simp only [Bool.false_eq_true, if_false, decide_eq_true_eq, large, true_and]
  case true => simp only [if_true, reduceCtorEq, decide_false, Bool.false_eq_true, false_and]

/-- The search takes the lowest of four numbers that qualifies (D37). -/
theorem find?_lowest {p : BitVec 2 → Bool} {w : BitVec 2} (hw : p w = true) (hl : ∀ v, v < w → ¬p v = true) :
    ([0, 1, 2, 3] : List (BitVec 2)).find? p = some w := by
  have four : ∀ w : BitVec 2, w = 0 ∨ w = 1 ∨ w = 2 ∨ w = 3 := by decide
  have miss {v : BitVec 2} (hv : v < w) {l : List (BitVec 2)} : (v :: l).find? p = l.find? p :=
    List.find?_cons_of_neg (hl v hv)
  rcases four w with rfl | rfl | rfl | rfl
  · exact List.find?_cons_of_pos hw
  · rw [miss (by decide)]
    exact List.find?_cons_of_pos hw
  · rw [miss (by decide), miss (by decide)]
    exact List.find?_cons_of_pos hw
  · rw [miss (by decide), miss (by decide), miss (by decide)]
    exact List.find?_cons_of_pos hw

/-- The test that a lookup makes of way `w` (R263). -/
def wayHits (s : State) (k : AccKind) (ea : Word) (w : BitVec 2) : Bool :=
  decide (w.toNat ≤ (mmuConfig s.cfg k).ntw.toNat)
    && tlbMatches s.cfg s.cid ((s.mmu k).tlbm.get (w ++ setOf (mmuConfig s.cfg k) ea))
      ((s.mmu k).highVpn (.tlb (w ++ setOf (mmuConfig s.cfg k) ea))) ea

/-- The test that a lookup makes of ATB entry `e` (R267). -/
def atbHits (s : State) (k : AccKind) (ea : Word) (e : BitVec 2) : Bool :=
  decide (e.toNat < (mmuConfig s.cfg k).nae.toNat)
    && atbMatches s.cfg s.cid ((s.mmu k).atbm.get e) ((s.mmu k).highVpn (.atb e)) ea

theorem findTlb_eq (s : State) (k : AccKind) (ea : Word) :
    findTlb s k ea = ([0, 1, 2, 3].find? (wayHits s k ea)).map fun w => w ++ setOf (mmuConfig s.cfg k) ea := by
  simp only [findTlb, tlbSet_eq]
  rfl

theorem findAtb_eq (s : State) (k : AccKind) (ea : Word) : findAtb s k ea = [0, 1, 2, 3].find? (atbHits s k ea) := rfl

theorem wayHits_iff {s : State} (hx : s.cfg.xlen = .x32) (k : AccKind) (ea : Word) (w : BitVec 2) :
    wayHits s k ea w = true ↔ TlbHit s k ea w := by
  simp only [wayHits, TlbHit, forall_eq, Bool.and_eq_true, decide_eq_true_eq, tlbMatches_x32 hx]

theorem atbHits_iff {s : State} (hx : s.cfg.xlen = .x32) (k : AccKind) (ea : Word) (e : BitVec 2) :
    atbHits s k ea e = true ↔ AtbHit s k ea e := by
  simp only [atbHits, AtbHit, forall_eq, Bool.and_eq_true, decide_eq_true_eq, atbMatches_x32 hx]

/-- The lowest hitting way translates (R263, D37). -/
theorem findTlb_lowest {s : State} (hx : s.cfg.xlen = .x32) {k : AccKind} {ea : Word} {w : BitVec 2}
    (hw : TlbHit s k ea w) (hl : ∀ v, v < w → ¬TlbHit s k ea v) :
    findTlb s k ea = some (w ++ setOf (mmuConfig s.cfg k) ea) := by
  rw [findTlb_eq, find?_lowest ((wayHits_iff hx k ea w).mpr hw) fun v hv => (wayHits_iff hx k ea v).not.mpr (hl v hv)]
  rfl

theorem findTlb_none {s : State} (hx : s.cfg.xlen = .x32) {k : AccKind} {ea : Word} (h : ∀ w, ¬TlbHit s k ea w) :
    findTlb s k ea = none := by
  rw [findTlb_eq, List.find?_eq_none.mpr fun w _ => (wayHits_iff hx k ea w).not.mpr (h w)]
  rfl

/-- The lowest hitting ATB entry translates (R267, D37). -/
theorem findAtb_lowest {s : State} (hx : s.cfg.xlen = .x32) {k : AccKind} {ea : Word} {e : BitVec 2}
    (he : AtbHit s k ea e) (hl : ∀ v, v < e → ¬AtbHit s k ea v) : findAtb s k ea = some e :=
  find?_lowest ((atbHits_iff hx k ea e).mpr he) fun v hv => (atbHits_iff hx k ea v).not.mpr (hl v hv)

theorem findAtb_none {s : State} (hx : s.cfg.xlen = .x32) {k : AccKind} {ea : Word} (h : ∀ e, ¬AtbHit s k ea e) :
    findAtb s k ea = none :=
  List.find?_eq_none.mpr fun e _ => (atbHits_iff hx k ea e).not.mpr (h e)

/-- The entry that translates an address on XLEN = 32: the lowest hitting way, else the lowest hitting ATB entry (R264). -/
theorem findEntry_x32 {s : State} (hx : s.cfg.xlen = .x32) (k : AccKind) (ea : Word) :
    (∀ w, TlbHit s k ea w → (∀ v, v < w → ¬TlbHit s k ea v) →
      findEntry s k ea = some (.tlb (w ++ setOf (mmuConfig s.cfg k) ea))) ∧
    ((∀ w, ¬TlbHit s k ea w) → ∀ e, AtbHit s k ea e → (∀ v, v < e → ¬AtbHit s k ea v) →
      findEntry s k ea = some (.atb e)) ∧
    ((∀ w, ¬TlbHit s k ea w) → (∀ e, ¬AtbHit s k ea e) → findEntry s k ea = none) := by
  refine ⟨fun w hw hl => ?_, fun hw e he hl => ?_, fun hw he => ?_⟩
  · simp only [findEntry, findTlb_lowest hx hw hl]
  · simp only [findEntry, findTlb_none hx hw, findAtb_lowest hx he hl, Option.map_some]
  · simp only [findEntry, findTlb_none hx hw, findAtb_none hx he, Option.map_none]

/-! ## The physical address of an entry -/

/-- The address of a page of `2 ^ n` bytes whose frame number a translate register holds from bit `start` on: the number
and the address's low bits side by side (R266). -/
theorem toNat_frame_append {m : Nat} (zero : BitVec m) (hz : zero.toNat = 0) (tr : Word32) (ea : Word) (start f n : Nat)
    (h : start + f = 32) :
    (zero ++ tr.extractLsb' start f ++ ea.extractLsb' 0 n).toNat = tr.toNat / 2 ^ start * 2 ^ n + ea.toNat % 2 ^ n := by
  have top : tr.toNat / 2 ^ start < 2 ^ f := by
    rw [Nat.div_lt_iff_lt_mul (Nat.two_pow_pos _), ← Nat.pow_add, Nat.add_comm f, h]
    exact tr.isLt
  rw [toNat_append_add, toNat_append_add, hz, Nat.zero_mul, Nat.zero_add, toNat_extractLsb', toNat_extractLsb',
    Nat.mod_eq_of_lt top, Nat.pow_zero, Nat.div_one]

/-- A small page of the TLB (R266). -/
theorem formPa_tlb_small {c : Config} (hc : c.xlen = .x32) (i : BitVec 9) {mr : Word32} (tr : Word32) (ea : Word)
    (h : mr.getLsbD 1 = false) :
    formPa c (.tlb i) mr tr ea = (tr.toNat / 2 ^ 13 * 2 ^ 13 + ea.toNat % 2 ^ 13) % 2 ^ c.paBits := by
  rw [← toNat_frame_append 0#3 rfl tr ea 13 19 13 rfl]
  simp only [formPa, hc, h, Bool.false_eq_true, if_false]
  rfl

/-- A 16 MByte page of the TLB (R266). -/
theorem formPa_tlb_large {c : Config} (hc : c.xlen = .x32) (i : BitVec 9) {mr : Word32} (tr : Word32) (ea : Word)
    (h : mr.getLsbD 1 = true) :
    formPa c (.tlb i) mr tr ea = (tr.toNat / 2 ^ 24 * 2 ^ 24 + ea.toNat % 2 ^ 24) % 2 ^ c.paBits := by
  rw [← toNat_frame_append 0#3 rfl tr ea 24 8 24 rfl]
  simp only [formPa, hc, h, if_true]
  rfl

/-- A 16 MByte page of the ATB (R266). -/
theorem formPa_atb (c : Config) (e : BitVec 2) {mr : Word32} (tr : Word32) (ea : Word) (h : mr.getLsbD 5 = false) :
    formPa c (.atb e) mr tr ea = (tr.toNat / 2 ^ 21 * 2 ^ 24 + ea.toNat % 2 ^ 24) % 2 ^ c.paBits := by
  rw [← toNat_frame_append 0#0 rfl tr ea 21 11 24 rfl, BitVec.toNat_append, BitVec.toNat_append]
  simp only [formPa, h, Bool.false_eq_true, if_false, BitVec.toNat_append]
  simp

end Sys2Proof.Machine
end

section
/-! PROOF. The hardware page table walk on XLEN = 32, and the entry it installs. -/

namespace Sys2Proof.Machine

/-! ## The walk -/

/-- Where the page tables of context 0 stand (R275). -/
theorem walkBase_context_zero {s : State} (hc : s.cid = 0) (k : AccKind) :
    walkBase s k = (s.mmu k).cr.toNat / 2 ^ 10 * 2 ^ 10 := by
  rw [walkBase, if_pos hc, toNat_and_mask _ _ 10 22 (by decide)]
  omega

theorem pteIndex_eq_zero_iff (p : Word32) : pteIndex p = 0 ↔ p.toNat / 2 ^ 6 % 8 = 0 := by
  rw [← BitVec.toNat_inj, pteIndex, toNat_extractLsb']
  rfl

/-- The table a directory entry points to (R275). -/
theorem pteTable_eq (p : Word32) : pteTable p = p.toNat / 2 ^ 10 * 2 ^ 13 := by
  have frame : p.toNat / 2 ^ 10 % 2 ^ 22 = p.toNat / 2 ^ 10 := by omega
  rw [pteTable, toNat_extractLsb', frame]
  rfl

/-- The last table of the walk, of a frame below 4 GByte (R275). -/
theorem walkTables_last {m : List Host.Cell} {p1 : Word32} {index a : Nat} (hp1 : p1.toNat / 2 ^ 29 = 0)
    (hi : index < 2 ^ 11) (ha : a = p1.toNat / 2 ^ 10 * 2 ^ 13 + 4 * index) :
    walkTables 32 m (pteTable p1) [(2, index)] =
      if pteIndex (readPte m a) = 0 then none
      else if pteLast (readPte m a) then some (a, readPte m a, 2) else none := by
  have small : (p1.toNat / 2 ^ 10 * 2 ^ 13 + 4 * index) % 2 ^ 32 = a := by omega
  rw [walkTables, pteTable_eq, small]
  rfl

section
variable {s : State} {k : AccKind} {ea : Word} (hx : s.cfg.xlen = .x32) (hp : s.cfg.paBits = 32) (hc : s.cid = 0)
include hx hp hc

/-- The walk on XLEN = 32, from the PTE of the first level (R275). -/
theorem findPte_x32 {a1 : Nat} (ha1 : a1 = (s.mmu k).cr.toNat / 2 ^ 10 * 2 ^ 10 + 4 * (ea.toNat / 2 ^ 24 % 2 ^ 8)) :
    findPte s k ea =
      if pteIndex (readPte s.mem a1) = 0 then none
      else if pteLast (readPte s.mem a1) then some (a1, readPte s.mem a1, 1)
      else walkTables 32 s.mem (pteTable (readPte s.mem a1)) [(2, ea.toNat / 2 ^ 13 % 2 ^ 11)] := by
  have small : ((s.mmu k).cr.toNat / 2 ^ 10 * 2 ^ 10 + 4 * (ea.toNat / 2 ^ 24 % 2 ^ 8)) % 2 ^ 32 = a1 := by omega
  rw [findPte, walkIndexes, hx, hp, walkBase_context_zero hc]
  simp only [toNat_extractLsb']
  rw [walkTables, small]

theorem findPte_of_walkFinds {p : Word32} {level : Nat} (h : WalkFinds s k ea p level) :
    ∃ a, findPte s k ea = some (a, p, level) := by
  obtain ⟨index1, found, -⟩ := h _ rfl
  rw [findPte_x32 hx hp hc rfl, if_neg ((pteIndex_eq_zero_iff _).not.mpr index1)]
  rcases found with ⟨last, rfl, rfl⟩ | ⟨more, frame, rfl, rfl, index, last⟩
  · exact ⟨_, if_pos last⟩
  · rw [if_neg (by simpa [pteLast] using more), walkTables_last frame (Nat.mod_lt _ (Nat.two_pow_pos 11)) rfl,
      if_neg ((pteIndex_eq_zero_iff _).not.mpr index)]
    exact ⟨_, if_pos last⟩

theorem findPte_of_walkFails (h : WalkFails s k ea) : findPte s k ea = none := by
  rw [findPte_x32 hx hp hc rfl]
  rcases h _ rfl with index1 | ⟨more, frame, ends⟩
  · exact if_pos ((pteIndex_eq_zero_iff _).mpr index1)
  · rw [if_neg (c := pteLast _ = true) (by simpa [pteLast] using more),
      walkTables_last frame (Nat.mod_lt _ (Nat.two_pow_pos 11)) rfl]
    rcases ends _ rfl with index | last
    · rw [if_pos ((pteIndex_eq_zero_iff _).mpr index), ite_self]
    · rw [if_neg (c := pteLast _ = true) (by simpa [pteLast] using last), ite_self, ite_self]

end

/-! ## The entry a walk installs -/

/-- The TLB match register a walk installs, `old` the one it replaces (R275, D22). -/
def walkedMatch (ea : Word) (old : Word32) (cid : BitVec 4) (level : Nat) : Word32 :=
  (ea.setWidth 32 &&& 0xFFFFE000#32) ||| (old &&& 0xC0#32) ||| (cid.setWidth 32 <<< 2) ||| (if level = 1 then 2#32 else 0#32)
    ||| 1#32

/-- The TLB translate register a walk installs (R275, R276). -/
def walkedTranslate (k : AccKind) (i : BitVec 9) (pr p : Word32) : Word32 :=
  (tlbFrame p ++ 0#13) ||| walkProt k (.tlb i) pr (pteIndex p) ||| (p &&& 0x3F#32)

/-- A walk for a page that is no 32 GByte page replaces a way of the selected set (R275). -/
theorem victim_tlb (s : State) (k : AccKind) (ea : Word) {level : Nat} (h : level ≠ 0) :
    ∃ w : BitVec 2, victim s k ea level = .tlb (w ++ setOf (mmuConfig s.cfg k) ea) ∧
      w.toNat ≤ (mmuConfig s.cfg k).ntw.toNat := by
  refine ⟨BitVec.ofNat 2 (s.freeWord.toNat % ((mmuConfig s.cfg k).ntw.toNat + 1)), ?_, ?_⟩
  · rw [← tlbSet_eq]
    exact if_neg h
  · rw [BitVec.toNat_ofNat]
    exact (Nat.mod_le _ _).trans (Nat.lt_succ_iff.mp (Nat.mod_lt _ (Nat.succ_pos _)))

/-- The state with a walked entry in the TLB. -/
theorem installEntry_tlb {s : State} {k : AccKind} {ea : Word} {p : Word32} {level : Nat} {i : BitVec 9}
    (h : victim s k ea level = .tlb i) :
    installEntry s k ea p level = (.tlb i, s.drawn.setMmu k { s.mmu k with
      tlbm := (s.mmu k).tlbm.set i (walkedMatch ea ((s.mmu k).tlbm.get i) s.cid level)
      tlbt := (s.mmu k).tlbt.set i (walkedTranslate k i (s.mmu k).pr p)
      tlbVpn := (s.mmu k).tlbVpn.set i (some (ea.extractLsb' 32 14))
      tlbPpn := (s.mmu k).tlbPpn.set i (some (p.extractLsb' 10 22)) }) := by
  unfold installEntry
  rw [h]
  rfl

/-- The fields of the match register: page number, LRU kept, and valid, at the page's level (R275). -/
theorem walkedMatch_toNat (ea : Word) (old : Word32) (level : Nat) :
    (walkedMatch ea old 0 level).toNat =
      ea.toNat / 2 ^ 13 % 2 ^ 19 * 2 ^ 13 + old.toNat / 2 ^ 6 % 4 * 2 ^ 6 + (if level = 1 then 3 else 1) := by
  have page : (ea.setWidth 32 &&& 0xFFFFE000#32).toNat = ea.toNat / 2 ^ 13 % 2 ^ 19 * 2 ^ 13 := by
    rw [toNat_and_mask _ _ 13 19 (by decide), BitVec.toNat_setWidth]
    omega
  have lru : (old &&& 0xC0#32).toNat = old.toNat / 2 ^ 6 % 4 * 2 ^ 6 := toNat_and_mask _ _ 6 2 (by decide)
  have both := toNat_or_add (ea.setWidth 32 &&& 0xFFFFE000#32) (old &&& 0xC0#32) 13 (by omega) (by omega)
  have context : (0 : BitVec 4).setWidth 32 <<< 2 = 0#32 := by decide
  rw [page, lru] at both
  unfold walkedMatch
  rw [context, BitVec.or_zero]
  generalize (ea.setWidth 32 &&& 0xFFFFE000#32) ||| (old &&& 0xC0#32) = high at both ⊢
  rw [← both]
  split
  · have level := toNat_or_add high 2#32 2 (by omega) (by decide)
    have valid := toNat_or_add (high ||| 2#32) 1#32 1 (by rw [level, BitVec.toNat_ofNat]; omega) (by decide)
    simp only [BitVec.toNat_ofNat] at level valid
    omega
  · rw [BitVec.or_zero]
    exact toNat_or_add high 1#32 1 (by omega) (by decide)

end Sys2Proof.Machine
end

section
/-! PROOF. The translate register of the entry that a walk installs: frame number, protection and low bits. -/

namespace Sys2Proof.Machine

/-! ## The translate register of a walked entry -/

/-- One bit of xMMUPR copied to bit `n`. -/
theorem getLsbD_bitAt (b : Bool) (n j : Nat) (hn : n < 32) :
    (if b = true then 1#32 <<< n else 0#32).getLsbD j = (b && decide (j = n)) := by
  cases b
  · simp
  · by_cases h : j = n <;> simp [h] <;> omega

/-- The protection bits of a walked entry lie at 9 to 6, outside its frame number and low bits (R276). -/
theorem walkProt_outside (k : AccKind) (slot : XlatSlot) (pr : Word32) (ppi : BitVec 3) {j : Nat} (hj : j < 6 ∨ 9 < j) :
    (walkProt k slot pr ppi).getLsbD j = false := by
  have other : ∀ n, 6 ≤ n ∧ n ≤ 9 → decide (j = n) = false := fun n hn => decide_eq_false (by omega)
  cases k <;> cases slot <;>
    simp only [walkProt, BitVec.getLsbD_or, BitVec.ofNat_eq_ofNat, getLsbD_bitAt, Nat.reduceLT, other,
      Nat.reduceLeDiff, and_self, Bool.and_false, Bool.or_self]

/-- The bit that permits an access through a walked TLB entry is the one that PTE[PPI] selects from xMMUPR (R276). -/
theorem walkProt_permitBit (k : AccKind) (i : BitVec 9) (sm : Bool) (pr : Word32) (ppi : BitVec 3) :
    (walkProt k (.tlb i) pr ppi).getLsbD (permitBit (.tlb i) k sm) = pr.getLsbD (groupBit k sm ppi.toNat) := by
  cases k <;> cases sm <;>
    simp only [walkProt, permitBit, groupBit, BitVec.getLsbD_or, BitVec.ofNat_eq_ofNat, getLsbD_bitAt, Nat.reduceLT,
      Nat.reduceEqDiff, if_true, Bool.false_eq_true, if_false, decide_true, decide_false, Bool.and_true, Bool.and_false,
      Bool.or_false, Bool.false_or, Nat.add_zero]

/-- The permission bits of a translate register are bits 9 to 6 (R106, R107, R109, R110). -/
theorem permitBit_bounds (slot : XlatSlot) (k : AccKind) (sm : Bool) :
    6 ≤ permitBit slot k sm ∧ permitBit slot k sm < 10 := by
  cases k <;> cases slot <;> cases sm <;> simp [permitBit]

theorem getLsbD_and_low6 (p : Word32) (j : Nat) : (p &&& 0x3F#32).getLsbD j = (decide (j < 6) && p.getLsbD j) := by
  have mask : ∀ j, j < 32 → (0x3F#32).getLsbD j = decide (j < 6) := by decide
  rw [BitVec.getLsbD_and, Bool.and_comm]
  by_cases h : j < 32
  · rw [mask j h]
  · rw [BitVec.getLsbD_of_ge _ _ (by omega), BitVec.getLsbD_of_ge p _ (by omega), Bool.and_false, Bool.and_false]

/-- A bit of the walked translate register: the frame number, the protection bits or the low bits of the PTE. -/
theorem walkedTranslate_getLsbD (k : AccKind) (i : BitVec 9) (pr p : Word32) (j : Nat) :
    (walkedTranslate k i pr p).getLsbD j =
      ((!decide (j < 13) && (tlbFrame p).getLsbD (j - 13)) || (walkProt k (.tlb i) pr (pteIndex p)).getLsbD j
        || (decide (j < 6) && p.getLsbD j)) := by
  rw [walkedTranslate, BitVec.getLsbD_or, BitVec.getLsbD_or, getLsbD_and_low6, BitVec.getLsbD_append]
  by_cases h : j < 13 <;> simp [h]

theorem walkedTranslate_permitBit (k : AccKind) (i : BitVec 9) (sm : Bool) (pr p : Word32) :
    (walkedTranslate k i pr p).getLsbD (permitBit (.tlb i) k sm) = pr.getLsbD (groupBit k sm (p.toNat / 2 ^ 6 % 8)) := by
  have bounds := permitBit_bounds (.tlb i) k sm
  rw [walkedTranslate_getLsbD, decide_eq_true (show permitBit (.tlb i) k sm < 13 by omega),
    decide_eq_false (show ¬permitBit (.tlb i) k sm < 6 by omega), walkProt_permitBit, pteIndex, toNat_extractLsb']
  simp

/-- The frame number of a walked entry is the PTE's, below 4 GByte (R275). -/
theorem walkedTranslate_frame (k : AccKind) (i : BitVec 9) (pr : Word32) {p : Word32} (h : p.toNat / 2 ^ 29 = 0) :
    (walkedTranslate k i pr p).toNat / 2 ^ 13 = p.toNat / 2 ^ 10 := by
  have narrow : tlbFrame p = p.extractLsb' 10 19 := by
    refine if_pos (BitVec.eq_of_toNat_eq ?_)
    rw [toNat_extractLsb', h]
    rfl
  have frame : (walkedTranslate k i pr p).extractLsb' 13 19 = p.extractLsb' 10 19 := by
    rw [← narrow]
    ext j hj
    rw [BitVec.getElem_extractLsb', walkedTranslate_getLsbD, walkProt_outside _ _ _ _ (.inr (by omega)),
      decide_eq_false (show ¬13 + j < 13 by omega), decide_eq_false (show ¬13 + j < 6 by omega), Nat.add_sub_cancel_left,
      BitVec.getLsbD_eq_getElem hj]
    simp
  have number := congrArg BitVec.toNat frame
  rw [toNat_extractLsb', toNat_extractLsb'] at number
  omega

/-- The low bits of a walked entry are the PTE's (R275). -/
theorem walkedTranslate_low (k : AccKind) (i : BitVec 9) (pr p : Word32) :
    (walkedTranslate k i pr p).toNat % 2 ^ 4 = p.toNat % 2 ^ 4 := by
  have low : (walkedTranslate k i pr p).extractLsb' 0 4 = p.extractLsb' 0 4 := by
    ext j hj
    rw [BitVec.getElem_extractLsb', BitVec.getElem_extractLsb', walkedTranslate_getLsbD,
      walkProt_outside _ _ _ _ (.inl (by omega)), decide_eq_true (show 0 + j < 13 by omega),
      decide_eq_true (show 0 + j < 6 by omega)]
    simp
  have number := congrArg BitVec.toNat low
  rw [toNat_extractLsb', toNat_extractLsb', Nat.pow_zero, Nat.div_one, Nat.div_one] at number
  exact number

/-- Marking an entry leaves its frame number and low bits, and sets A (R269). -/
theorem markAccessed_fields (k : AccKind) (tr : Word32) :
    (markAccessed k tr).toNat / 2 ^ 13 = tr.toNat / 2 ^ 13 ∧ (markAccessed k tr).toNat % 2 ^ 4 = tr.toNat % 2 ^ 4 ∧
      (markAccessed k tr).getLsbD 4 = true := by
  have frame (m : Word32) (hm : m.toNat / 2 ^ 13 = 0) : (tr ||| m).toNat / 2 ^ 13 = tr.toNat / 2 ^ 13 := by
    rw [BitVec.toNat_or, ← Nat.shiftRight_eq_div_pow, Nat.shiftRight_or_distrib, Nat.shiftRight_eq_div_pow,
      Nat.shiftRight_eq_div_pow, hm, Nat.or_zero]
  have low (m : Word32) (hm : m.toNat % 2 ^ 4 = 0) : (tr ||| m).toNat % 2 ^ 4 = tr.toNat % 2 ^ 4 := by
    rw [BitVec.toNat_or, Nat.or_mod_two_pow, hm, Nat.or_zero]
  cases k <;> exact ⟨frame _ (by decide), low _ (by decide), by simp [markAccessed]⟩

end Sys2Proof.Machine
end

section
/-! PROOF. Address translation: accesses through an entry, and the outcome of a hardware page table walk. -/

namespace Sys2Proof.Machine

/-! ## Marking an entry, and writing its PTE back -/

/-- Marking an entry changes its translate register alone (R269). -/
theorem translateOf_setTranslate (m : MmuRegs) (e : XlatSlot) (v : Word32) (x : XlatSlot) :
    (m.setTranslate e v).translateOf x = if x = e then v else m.translateOf x := by
  by_cases h : x = e
  · subst h
    rw [if_pos rfl]
    cases x <;> exact Bank.get_set_self ..
  · rw [if_neg h]
    match e, x with
    | .tlb i, .tlb j => exact Bank.get_set_ne _ _ _ _ fun same => h (congrArg XlatSlot.tlb same)
    | .tlb _, .atb _ | .atb _, .tlb _ => rfl
    | .atb i, .atb j => exact Bank.get_set_ne _ _ _ _ fun same => h (congrArg XlatSlot.atb same)

theorem matchOf_setTranslate (m : MmuRegs) (e : XlatSlot) (v : Word32) (x : XlatSlot) :
    (m.setTranslate e v).matchOf x = m.matchOf x := by
  cases e <;> cases x <;> rfl

/-- Without a hardware walk that writes page tables, memory stays (R275). -/
theorem writeBackPte_off {s : State} {k : AccKind} (h : ((mmuConfig s.cfg k).htr && s.cfg.htrWriteBack) = false)
    (ea : Word) : writeBackPte s k ea = s := by
  rw [writeBackPte, h]
  rfl

/-- Writing a PTE back leaves the MMU's registers. -/
theorem writeBackPte_mmu (s : State) (k k' : AccKind) (ea : Word) : (writeBackPte s k ea).mmu k' = s.mmu k' := by
  unfold writeBackPte
  split
  · split
    · split <;> rfl
    · rfl
  · rfl

theorem setMmu_frame (s : State) (k : AccKind) (m : MmuRegs) :
    s.setMmu k m = { s with dmmu := (s.setMmu k m).dmmu, immu := (s.setMmu k m).immu } := by
  cases k with
  | fetch => cases hu : s.cfg.unifiedMmu <;> simp only [State.setMmu, hu, if_true, Bool.false_eq_true, if_false]
  | load => rfl
  | store => rfl

/-! ## Accesses through an entry -/

/-- A permitted access through an entry marks it (R264, R269). -/
theorem useEntry_permitted {s : State} {k : AccKind} {slot : XlatSlot}
    (h : ((s.mmu k).translateOf slot).getLsbD (permitBit slot k s.sm) = true) (ea : Word) :
    useEntry s k ea slot = .ok (entryPa s k ea slot) (writeBackPte
      (s.setMmu k ((s.mmu k).setTranslate slot (markAccessed k ((s.mmu k).translateOf slot)))) k ea) :=
  if_pos h

theorem useEntry_refused {s : State} {k : AccKind} {slot : XlatSlot}
    (h : ((s.mmu k).translateOf slot).getLsbD (permitBit slot k s.sm) = false) (ea : Word) :
    useEntry s k ea slot = .exc (pageFault k) s :=
  if_neg (by rw [h]; decide)

/-- A translated address that an entry covers goes through it (R264). -/
theorem physical_hit {s : State} {k : AccKind} {ea : Word} {slot : XlatSlot} (ht : s.translated k = true)
    (hf : findEntry s k ea = some slot) : physical s k ea = useEntry s k ea slot := by
  simp only [physical, ht, if_true, translate, hf]

/-- With a hardware walk an address that no entry covers goes through the one the walk installs (R275). -/
theorem physical_walked {s : State} {k : AccKind} {ea : Word} {a level : Nat} {p : Word32} (ht : s.translated k = true)
    (hh : (mmuConfig s.cfg k).htr = true) (hf : findEntry s k ea = none) (hp : findPte s k ea = some (a, p, level)) :
    physical s k ea = useEntry (installEntry s k ea p level).2 k ea (installEntry s k ea p level).1 := by
  simp only [physical, ht, if_true, translate, hf, hh, hp]

theorem physical_lost {s : State} {k : AccKind} {ea : Word} (ht : s.translated k = true)
    (hh : (mmuConfig s.cfg k).htr = true) (hf : findEntry s k ea = none) (hp : findPte s k ea = none) :
    physical s k ea = .exc (pageFault k) s := by
  simp only [physical, ht, if_true, translate, hf, hh, hp]

theorem pageFault_eq (k : AccKind) : pageFault k = if k = .fetch then .insnPageFault else .dataPageFault := by
  cases k <;> rfl

theorem markAccessed_eq (k : AccKind) (tr : Word32) : markAccessed k tr = tr ||| (if k = .store then 0x30 else 0x10) := by
  cases k <;> rfl

/-- On XLEN = 32 the physical address is what the registers form (R266). -/
theorem entryPa_x32 {s : State} (hx : s.cfg.xlen = .x32) (k : AccKind) (ea : Word) (slot : XlatSlot) :
    entryPa s k ea slot = formPa s.cfg slot ((s.mmu k).matchOf slot) ((s.mmu k).translateOf slot) ea := by
  cases slot <;> simp [entryPa, heldPpn, hx]

/-- An access through an entry under software reload marks it, and nothing else of the MMU changes (R269). -/
theorem physical_marks {s : State} {k : AccKind} {ea : Word} {e : XlatSlot} (ht : s.translated k = true)
    (hh : (mmuConfig s.cfg k).htr = false) (hf : findEntry s k ea = some e)
    (hb : ((s.mmu k).translateOf e).getLsbD (permitBit e k s.sm) = true) :
    physical s k ea = .ok (entryPa s k ea e)
      (s.setMmu k ((s.mmu k).setTranslate e (markAccessed k ((s.mmu k).translateOf e)))) := by
  rw [physical_hit ht hf, useEntry_permitted hb, writeBackPte_off]
  rw [State.setMmu_cfg, hh, Bool.false_and]

/-! ## The outcome of a walk -/

/-- The physical address through a walked entry is the PTE's frame and the address's offset in the page (R266, R275). -/
theorem formPa_walked {c : Config} (hx : c.xlen = .x32) (hp : c.paBits = 32) (k : AccKind) (i : BitVec 9) (old pr p : Word32)
    (ea : Word) {level : Nat} (h : p.toNat / 2 ^ 29 = 0) :
    formPa c (.tlb i) (walkedMatch ea old 0 level) (walkedTranslate k i pr p) ea =
      if level = 1 then p.toNat / 2 ^ 21 * 2 ^ 24 + ea.toNat % 2 ^ 24
      else p.toNat / 2 ^ 10 * 2 ^ 13 + ea.toNat % 2 ^ 13 := by
  have frame := walkedTranslate_frame k i pr h
  have size : (walkedMatch ea old 0 level).getLsbD 1 = decide (level = 1) := by
    have number := walkedMatch_toNat ea old level
    rw [BitVec.getLsbD, Nat.testBit_eq_decide_div_mod_eq, number, decide_eq_decide]
    split <;> omega
  by_cases hl : level = 1
  · rw [formPa_tlb_large hx i _ _ (by rw [size, hl]; rfl), if_pos hl, hp]
    omega
  · rw [formPa_tlb_small hx i _ _ (by rw [size, decide_eq_false hl]), if_neg hl, hp, frame]
    omega

/-- What a walk that ends at the PTE `p` leaves of an MMU: the walked entry at `i`, marked, and every other entry as it
was. -/
structure WalkInstalled (k : AccKind) (ea : Word) (p : Word32) (level : Nat) (i : BitVec 9) (m m' : MmuRegs) : Prop where
  /-- The match register: page number, LRU kept, valid, at the page's level. -/
  matchReg : (m'.tlbm.get i).toNat =
    ea.toNat / 2 ^ 13 % 2 ^ 19 * 2 ^ 13 + (m.tlbm.get i).toNat / 2 ^ 6 % 4 * 2 ^ 6 + (if level = 1 then 3 else 1)
  /-- The frame number. -/
  frame : (m'.tlbt.get i).toNat / 2 ^ 13 = p.toNat / 2 ^ 10
  /-- The low bits of the PTE. -/
  low : (m'.tlbt.get i).toNat % 2 ^ 4 = p.toNat % 2 ^ 4
  /-- The accessed bit. -/
  accessed : (m'.tlbt.get i).getLsbD 4 = true
  /-- The other entries. -/
  others : ∀ j, j ≠ i → m'.tlbm.get j = m.tlbm.get j ∧ m'.tlbt.get j = m.tlbt.get j

theorem walkInstalled_of_set {m m' : MmuRegs} {k : AccKind} {ea : Word} {p : Word32} {level : Nat} {i : BitVec 9}
    (hp : p.toNat / 2 ^ 29 = 0) (hm : m'.tlbm = m.tlbm.set i (walkedMatch ea (m.tlbm.get i) 0 level))
    (ht : m'.tlbt = (m.tlbt.set i (walkedTranslate k i m.pr p)).set i (markAccessed k (walkedTranslate k i m.pr p))) :
    WalkInstalled k ea p level i m m' := by
  obtain ⟨frame, low, accessed⟩ := markAccessed_fields k (walkedTranslate k i m.pr p)
  constructor
  case matchReg => rw [hm, Bank.get_set_self, walkedMatch_toNat]
  case frame => rw [ht, Bank.get_set_self, frame, walkedTranslate_frame k i _ hp]
  case low => rw [ht, Bank.get_set_self, low, walkedTranslate_low]
  case accessed => rw [ht, Bank.get_set_self, accessed]
  case others =>
    intro j hj
    rw [hm, ht, Bank.get_set_ne _ _ _ _ hj, Bank.get_set_ne _ _ _ _ hj, Bank.get_set_ne _ _ _ _ hj]
    exact ⟨rfl, rfl⟩

section
variable {s : State} {k : AccKind} {ea : Word} (hx : s.cfg.xlen = .x32) (hp : s.cfg.paBits = 32)
  (ht : s.translated k = true) (hh : (mmuConfig s.cfg k).htr = true) (hc : s.cid = 0) (hf : findEntry s k ea = none)
include hx hp ht hh hc hf

/-- A walk that ends at a PTE makes the access through the entry it installs. -/
theorem physical_walkFinds {p : Word32} {level : Nat} (h : WalkFinds s k ea p level) :
    ∃ (w : BitVec 2) (i : BitVec 9) (u : State), i = w ++ setOf (mmuConfig s.cfg k) ea ∧
      w.toNat ≤ (mmuConfig s.cfg k).ntw.toNat ∧ physical s k ea = useEntry u k ea (.tlb i) ∧ u = s.drawn.setMmu k (u.mmu k) ∧
      (u.mmu k).tlbm = (s.mmu k).tlbm.set i (walkedMatch ea ((s.mmu k).tlbm.get i) 0 level) ∧
      (u.mmu k).tlbt = (s.mmu k).tlbt.set i (walkedTranslate k i (s.mmu k).pr p) := by
  obtain ⟨a, hpte⟩ := findPte_of_walkFinds hx hp hc h
  have level_ne : level ≠ 0 := by
    obtain ⟨-, ⟨-, -, rfl⟩ | ⟨-, -, rfl, -⟩, -⟩ := h _ rfl <;> decide
  obtain ⟨w, hv, hw⟩ := victim_tlb s k ea level_ne
  rw [physical_walked ht hh hf hpte, installEntry_tlb hv, hc]
  exact ⟨w, _, _, rfl, hw, rfl, by rw [State.mmu_setMmu], by rw [State.mmu_setMmu], by rw [State.mmu_setMmu]⟩

theorem physical_walk_refused {p : Word32} {level : Nat} (h : WalkFinds s k ea p level)
    (hb : (s.mmu k).pr.getLsbD (groupBit k s.sm (p.toNat / 2 ^ 6 % 8)) = false) :
    ∃ s', physical s k ea = .exc (pageFault k) s' := by
  obtain ⟨w, i, u, -, -, hphys, hu, -, translate⟩ := physical_walkFinds hx hp ht hh hc hf h
  have sm : u.sm = s.sm := by
    rw [State.sm, hu, State.setMmu_sr]
    rfl
  refine ⟨u, hphys.trans (useEntry_refused ?_ ea)⟩
  rw [MmuRegs.translateOf, translate, Bank.get_set_self, sm, walkedTranslate_permitBit, hb]

/-- A walked page that its protection group permits gives the physical address, and the entry is in the TLB afterwards. -/
theorem physical_walk_permitted {p : Word32} {level : Nat} (h : WalkFinds s k ea p level)
    (hb : (s.mmu k).pr.getLsbD (groupBit k s.sm (p.toNat / 2 ^ 6 % 8)) = true) :
    ∃ (s' : State) (w : BitVec 2) (i : BitVec 9),
      physical s k ea = .ok (if level = 1 then p.toNat / 2 ^ 21 * 2 ^ 24 + ea.toNat % 2 ^ 24
        else p.toNat / 2 ^ 10 * 2 ^ 13 + ea.toNat % 2 ^ 13) s' ∧
      i = w ++ setOf (mmuConfig s.cfg k) ea ∧ w.toNat ≤ (mmuConfig s.cfg k).ntw.toNat ∧
      WalkInstalled k ea p level i (s.mmu k) (s'.mmu k) ∧
      (s.cfg.htrWriteBack = false → s' = { s with dmmu := s'.dmmu, immu := s'.immu, free := s'.free }) := by
  obtain ⟨w, i, u, hi, hw, hphys, hu, matched, translate⟩ := physical_walkFinds hx hp ht hh hc hf h
  have frame : p.toNat / 2 ^ 29 = 0 := (h _ rfl).2.2
  have cfg : u.cfg = s.cfg := by
    rw [hu, State.setMmu_cfg]
    rfl
  have sm : u.sm = s.sm := by
    rw [State.sm, hu, State.setMmu_sr]
    rfl
  have tr : (u.mmu k).translateOf (.tlb i) = walkedTranslate k i (s.mmu k).pr p := by
    rw [MmuRegs.translateOf, translate, Bank.get_set_self]
  have mr : (u.mmu k).matchOf (.tlb i) = walkedMatch ea ((s.mmu k).tlbm.get i) 0 level := by
    rw [MmuRegs.matchOf, matched, Bank.get_set_self]
  have permitted : ((u.mmu k).translateOf (.tlb i)).getLsbD (permitBit (.tlb i) k u.sm) = true := by
    rw [tr, sm, walkedTranslate_permitBit, hb]
  have used := useEntry_permitted permitted ea
  rw [entryPa_x32 (by rw [cfg, hx]), tr, mr, cfg, formPa_walked hx hp _ _ _ _ _ _ frame] at used
  refine ⟨_, w, i, hphys.trans used, hi, hw, ?_, fun off => ?_⟩
  · rw [writeBackPte_mmu, State.mmu_setMmu]
    exact walkInstalled_of_set frame matched (by rw [← translate]; rfl)
  · rw [writeBackPte_off (by rw [State.setMmu_cfg, cfg, off, Bool.and_false]), setMmu_frame u, hu, setMmu_frame s.drawn]
    rfl

theorem physical_walkFails (h : WalkFails s k ea) : physical s k ea = .exc (pageFault k) s :=
  physical_lost ht hh hf (findPte_of_walkFails hx hp hc h)

end

end Sys2Proof.Machine
end

section
/-! PROOF. Writes of the MMU's control and invalidate registers, and the statement about the MMU as a whole. -/

namespace Sys2Proof.Machine

/-! ## xMMUCR -/

/-- A write of xMMUCR stores the table base, flushes the TLB if asked, and keeps everything else (R100, R102, D20). -/
theorem writeControl_eq (m : MmuRegs) (v : Word32) :
    m.writeControl v = { m with
      cr := v &&& 0xFFFFFC00, tlbm := if v.getLsbD 0 then m.tlbm.map fun mr => mr &&& 0xFFFFFFFE else m.tlbm } := by
  unfold MmuRegs.writeControl MmuRegs.flush
  cases v.getLsbD 0 <;> rfl

theorem writeReg_mmucr (s : State) (k : AccKind) (v : Word) :
    ((writeReg s (.mmucr k) v).mmu k).cr.toNat = v.toNat / 2 ^ 10 % 2 ^ 22 * 2 ^ 10 ∧
    (∀ i, ((writeReg s (.mmucr k) v).mmu k).tlbm.get i =
      if v.getLsbD 0 then (s.mmu k).tlbm.get i &&& 0xFFFFFFFE else (s.mmu k).tlbm.get i) ∧
    writeReg s (.mmucr k) v = s.setMmu k { s.mmu k with
      cr := ((writeReg s (.mmucr k) v).mmu k).cr, tlbm := ((writeReg s (.mmucr k) v).mmu k).tlbm } := by
  have written : writeReg s (.mmucr k) v = s.setMmu k ((s.mmu k).writeControl (v.setWidth 32)) := rfl
  have flush : (v.setWidth 32).getLsbD 0 = v.getLsbD 0 := by simp
  rw [written, State.mmu_setMmu, writeControl_eq, flush]
  refine ⟨?_, fun i => ?_, rfl⟩
  · rw [toNat_and_mask _ _ 10 22 (by decide), BitVec.toNat_setWidth]
    omega
  · cases v.getLsbD 0
    · rfl
    · exact Bank.get_map _ _ _

/-! ## xTLBEIR -/

/-- What a write of xTLBEIR does to one way (R104, D21). -/
def invalidateWay (c : Config) (g : MmuConfig) (ea : Word) (m : MmuRegs) (w : BitVec 2) : MmuRegs :=
  let i := tlbIndex w (tlbSet g ea)
  let mr := m.tlbm.get i
  if decide (w.toNat ≤ g.ntw.toNat) && decide (mr.extractLsb' 13 19 = ea.extractLsb' 13 19)
      && highPageMatches c (m.highVpn (.tlb i)) ea 0 then
    { m with tlbm := m.tlbm.set i (mr &&& 0xFFFFFFFE) }
  else m

theorem invalidate_eq (m : MmuRegs) (c : Config) (g : MmuConfig) (ea : Word) :
    m.invalidate c g ea = [0, 1, 2, 3].foldl (invalidateWay c g ea) m := rfl

/-- On XLEN = 32 the entry of a way loses its V bit when it is in the selected set and its page number is the address's. -/
abbrev Invalidates (g : MmuConfig) (ea : Word) (mr : Word32) (w : BitVec 2) (n : BitVec 7) : Prop :=
  w.toNat ≤ g.ntw.toNat ∧ n = setOf g ea ∧ mr.toNat / 2 ^ 13 = ea.toNat / 2 ^ 13 % 2 ^ 19

theorem append_inj {w v : BitVec 2} {n m : BitVec 7} : w ++ n = v ++ m ↔ w = v ∧ n = m := by
  constructor
  · intro h
    have number := congrArg BitVec.toNat h
    rw [toNat_append_add, toNat_append_add] at number
    exact ⟨BitVec.eq_of_toNat_eq (by omega), BitVec.eq_of_toNat_eq (by omega)⟩
  · rintro ⟨rfl, rfl⟩
    rfl

/-- One way is invalidated in its own entry alone. -/
theorem invalidateWay_x32 {c : Config} (hx : c.xlen = .x32) (g : MmuConfig) (ea : Word) (m : MmuRegs) (v : BitVec 2) :
    invalidateWay c g ea m v = { m with tlbm := (invalidateWay c g ea m v).tlbm } ∧
    ∀ w n, (invalidateWay c g ea m v).tlbm.get (w ++ n) =
      if w = v ∧ Invalidates g ea (m.tlbm.get (w ++ n)) w n then m.tlbm.get (w ++ n) &&& 0xFFFFFFFE
      else m.tlbm.get (w ++ n) := by
  have test : invalidateWay c g ea m v =
      if v.toNat ≤ g.ntw.toNat ∧ (m.tlbm.get (v ++ setOf g ea)).toNat / 2 ^ 13 = ea.toNat / 2 ^ 13 % 2 ^ 19 then
        { m with tlbm := m.tlbm.set (v ++ setOf g ea) (m.tlbm.get (v ++ setOf g ea) &&& 0xFFFFFFFE) }
      else m := by
    simp only [invalidateWay, tlbIndex, tlbSet_eq, highPageMatches, hx, Bool.and_true, Bool.and_eq_true, decide_eq_true_eq,
      pageNumber_eq_iff _ ea 13 19 rfl]
  rw [test]
  split
  next hit =>
    refine ⟨rfl, fun w n => ?_⟩
    by_cases he : w = v ∧ n = setOf g ea
    · obtain ⟨rfl, rfl⟩ := he
      rw [Bank.get_set_self, if_pos ⟨rfl, hit.1, rfl, hit.2⟩]
    · rw [Bank.get_set_ne _ _ _ _ (append_inj.not.mpr he), if_neg fun h => he ⟨h.1, h.2.2.1⟩]
  next miss =>
    refine ⟨rfl, fun w n => ?_⟩
    rw [if_neg]
    rintro ⟨rfl, small, rfl, page⟩
    exact miss ⟨small, page⟩

/-- Ways that are all different are invalidated each in its own entry. -/
theorem invalidateWays_x32 {c : Config} (hx : c.xlen = .x32) (g : MmuConfig) (ea : Word) {ws : List (BitVec 2)}
    (hw : ws.Nodup) (m : MmuRegs) :
    ws.foldl (invalidateWay c g ea) m = { m with tlbm := (ws.foldl (invalidateWay c g ea) m).tlbm } ∧
    ∀ w n, (ws.foldl (invalidateWay c g ea) m).tlbm.get (w ++ n) =
      if w ∈ ws ∧ Invalidates g ea (m.tlbm.get (w ++ n)) w n then m.tlbm.get (w ++ n) &&& 0xFFFFFFFE
      else m.tlbm.get (w ++ n) := by
  induction ws generalizing m with
  | nil => exact ⟨rfl, fun w n => (if_neg (by simp)).symm⟩
  | cons v ws ih =>
    obtain ⟨notMem, hws⟩ := List.nodup_cons.mp hw
    obtain ⟨frame, one⟩ := invalidateWay_x32 hx g ea m v
    obtain ⟨frame', rest⟩ := ih hws (invalidateWay c g ea m v)
    refine ⟨?_, fun w n => ?_⟩
    · rw [List.foldl_cons, frame', frame]
    · rw [List.foldl_cons, rest, one]
      by_cases hv : w = v
      · subst hv
        simp [notMem]
      · simp [hv]

/-- Truncation to XLEN leaves the fields within bits 31-0. -/
theorem trunc_field (c : Config) (v : Word) {start n : Nat} (h : start + n ≤ 32) :
    (trunc c v).toNat / 2 ^ start % 2 ^ n = v.toNat / 2 ^ start % 2 ^ n := by
  have width : 32 ≤ xlenBits c := by
    unfold xlenBits
    split <;> decide
  rw [trunc_eq_mod, ← Nat.add_sub_cancel' (show start ≤ xlenBits c by omega), Nat.pow_add, Nat.mod_mul_right_div_self,
    Nat.mod_mod_of_dvd _ (Nat.pow_dvd_pow 2 (by omega))]

theorem setOf_trunc (c : Config) (g : MmuConfig) (v : Word) : setOf g (trunc c v) = setOf g v := by
  rw [setOf, setOf, trunc_field c v (by omega)]

/-- A write of xTLBEIR on XLEN = 32 (R104, D21). -/
theorem writeReg_tlbeir {s : State} (hx : s.cfg.xlen = .x32) (k : AccKind) (v : Word) :
    (∀ (w : BitVec 2) (n : BitVec 7), ((writeReg s (.tlbeir k) v).mmu k).tlbm.get (w ++ n) =
      if Invalidates (mmuConfig s.cfg k) v ((s.mmu k).tlbm.get (w ++ n)) w n then (s.mmu k).tlbm.get (w ++ n) &&& 0xFFFFFFFE
      else (s.mmu k).tlbm.get (w ++ n)) ∧
    writeReg s (.tlbeir k) v =
      s.setMmu k { s.mmu k with tlbm := ((writeReg s (.tlbeir k) v).mmu k).tlbm } := by
  have written : writeReg s (.tlbeir k) v =
      s.setMmu k ((s.mmu k).invalidate s.cfg (mmuConfig s.cfg k) (trunc s.cfg v)) := rfl
  have every : ∀ w : BitVec 2, w ∈ ([0, 1, 2, 3] : List (BitVec 2)) := by decide
  obtain ⟨frame, ways⟩ :=
    invalidateWays_x32 hx (mmuConfig s.cfg k) (trunc s.cfg v) (ws := [0, 1, 2, 3]) (by decide) (s.mmu k)
  rw [written, State.mmu_setMmu, invalidate_eq]
  refine ⟨fun w n => ?_, congrArg _ frame⟩
  rw [ways]
  simp only [every, true_and, Invalidates, setOf_trunc, trunc_field s.cfg v (Nat.le_refl (13 + 19))]

/-- Settles O58: the exception of an access, the lookup, permission and address of an entry, the walk, the accessed and
dirty bits, and the two register writes, each by its lemma. -/
theorem accessExceptionsAndMmu : Obligations.AccessExceptionsAndMmu := by
  refine ⟨fun s s' i k ea n x ready hi h => ⟨accessPas_exc h, exec_access_exc ready hi h⟩,
    fun s k ea hx => findEntry_x32 hx k ea, fun i e => ⟨by simp [permitBit], rfl, rfl, rfl, rfl, rfl, rfl, rfl, rfl⟩,
    fun c i e mr tr ea hx => ⟨formPa_tlb_small hx i tr ea, formPa_tlb_large hx i tr ea, formPa_atb c e tr ea⟩,
    ?_, ?_, ?_, ?_⟩
  · intro s k ea hx hp ht hh hc hf
    rw [← pageFault_eq]
    refine ⟨physical_walkFails hx hp ht hh hc hf, fun p level h =>
      ⟨physical_walk_refused hx hp ht hh hc hf h, fun hb => ?_⟩⟩
    obtain ⟨s', w, i, hphys, hi, hw, installed, frame⟩ := physical_walk_permitted hx hp ht hh hc hf h hb
    exact ⟨s', w, i, hphys, hi, hw, installed.matchReg, installed.frame, installed.low, installed.accessed,
      installed.others, frame⟩
  · intro s k ea e ht hh hf hb
    refine ⟨_, _, physical_marks ht hh hf hb, ?_⟩
    rw [State.mmu_setMmu, ← markAccessed_eq]
    exact ⟨translateOf_setTranslate _ _ _, matchOf_setTranslate _ _ _, setTranslate_cr _ _ _⟩
  · rintro s t k v rfl
    exact writeReg_mmucr s k v
  · rintro s t k v hx rfl
    obtain ⟨ways, frame⟩ := writeReg_tlbeir hx k v
    refine ⟨?_, frame⟩
    rintro w n mr rfl
    exact ways w n

end Sys2Proof.Machine
end

section
/-! PROOF. Address translation under software reload. -/

namespace Sys2Proof.Machine

theorem tlbMiss_eq (k : AccKind) : tlbMiss k = if k = .fetch then .itlbMiss else .dtlbMiss := by
  cases k <;> rfl

/-- Under software reload an address that no entry covers misses the TLB, with every bit as it was (R264, R265, D36). -/
theorem physical_missed {s : State} {k : AccKind} {ea : Word} (ht : s.translated k = true)
    (hh : (mmuConfig s.cfg k).htr = false) (hf : findEntry s k ea = none) : physical s k ea = .exc (tlbMiss k) s := by
  simp only [physical, ht, if_true, translate, hf, hh, Bool.false_eq_true, if_false]

/-- Settles O57: an address that no entry covers misses, an entry that does not permit refuses, and one that permits forms
the address and is marked. -/
theorem translationOutcomes : Obligations.TranslationOutcomes := by
  intro s k ea ht hh
  refine ⟨fun hf => ?miss, fun e hf hb => ?refused, fun e hf hb => ?permitted⟩
  case miss => rw [physical_missed ht hh hf, tlbMiss_eq]
  case refused => rw [physical_hit ht hf, useEntry_refused hb, pageFault_eq]
  case permitted =>
    refine ⟨_, by rw [physical_marks ht hh hf hb, entryPa_software _ _ _ _ hh], ?_, setMmu_frame _ _ _⟩
    obtain ⟨-, -, accessed⟩ := markAccessed_fields k ((s.mmu k).translateOf e)
    rw [State.mmu_setMmu, translateOf_setTranslate, if_pos rfl, accessed]

end Sys2Proof.Machine
end

section
/-! PROOF. Decoding an encoded instruction gives it back: which decoder each format leads to, what it finds in the
fields, then the round trip, format by format. -/

namespace Sys2Proof

/-! ## Major opcodes that lead to a decoder of their own -/

theorem decodeWord_encAlu (d a b : RegNo) (hi : BitVec 2) (lo : BitVec 4) :
    decodeWord (encAlu d a b hi lo) = decodeAlu (encAlu d a b hi lo) := by
  simp only [decodeWord, encAlu_fields, BitVec.reduceToNat]

theorem decodeWord_encSub (d a b : RegNo) (hi lo : BitVec 4) :
    decodeWord (encSub d a b hi lo) = decodeAlu (encSub d a b hi lo) := by
  simp only [decodeWord, encSub_fields, BitVec.reduceToNat]

theorem decodeWord_encShi (d a : RegNo) (op : BitVec 2) (l : BitVec 6) :
    decodeWord (encShi d a op l) = decodeShi (encShi d a op l) := by
  simp only [decodeWord, encShi_fields, BitVec.reduceToNat]

theorem decodeWord_encSfi (op : BitVec 5) (a : RegNo) (i : BitVec 16) :
    decodeWord (encSfi op a i) = decodeSfi (encSfi op a i) := by
  simp only [decodeWord, encSfi_fields, BitVec.reduceToNat]

theorem decodeWord_encSf (op : BitVec 5) (a b : RegNo) : decodeWord (encSf op a b) = decodeSf (encSf op a b) := by
  simp only [decodeWord, encSf_fields, BitVec.reduceToNat]

theorem decodeWord_encMac (a b : RegNo) (op : BitVec 4) : decodeWord (encMac a b op) = decodeMac (encMac a b op) := by
  simp only [decodeWord, encMac_fields, BitVec.reduceToNat]

theorem decodeWord_encMinor_fp (d a b : RegNo) (d2 a2 b2 : BitVec 1) (minor : BitVec 8) :
    decodeWord (encMinor 0x32#6 d a b d2 a2 b2 minor) = decodeFp (encMinor 0x32#6 d a b d2 a2 b2 minor) := by
  simp only [decodeWord, encMinor_fields, BitVec.reduceToNat]

theorem decodeWord_encMinor_vec (d a b : RegNo) (d2 a2 b2 : BitVec 1) (minor : BitVec 8) :
    decodeWord (encMinor 0x0A#6 d a b d2 a2 b2 minor) = decodeVec (encMinor 0x0A#6 d a b d2 a2 b2 minor) := by
  simp only [decodeWord, encMinor_fields, BitVec.reduceToNat]

/-! ## Fields that are a part of what the encoding puts down -/

/-- Bits 9-8, which choose the group of major opcode 0x38, are the upper half of the shift's or extension's opcode. -/
theorem encSub_group (d a b : RegNo) (hi lo : BitVec 4) :
    (encSub d a b hi lo).extractLsb' 8 2 = hi.extractLsb' 2 2 := by
  unfold encSub
  simp (disch := decide) only [BitVec.extractLsb'_append_eq_of_le, BitVec.extractLsb'_append_eq_of_add_le]

/-- Bit 16, which tells l.macrc from l.movhi, is the lowest bit of the field above the immediate. -/
theorem encRri_bit16 (op : BitVec 6) (d a : RegNo) (i : BitVec 16) :
    (encRri op d a i).extractLsb' 16 1 = a.extractLsb' 0 1 := by
  unfold encRri
  simp (disch := decide) only [BitVec.extractLsb'_append_eq_of_le, BitVec.extractLsb'_append_eq_of_add_le]

/-- The halves of a minor opcode, by which the floating-point and vector decoders go. -/
theorem encMinor_halves (op : BitVec 6) (d a b : RegNo) (d2 a2 b2 : BitVec 1) (minor : BitVec 8) :
    (encMinor op d a b d2 a2 b2 minor).extractLsb' 4 4 = minor.extractLsb' 4 4 ∧
    (encMinor op d a b d2 a2 b2 minor).extractLsb' 0 4 = minor.extractLsb' 0 4 := by
  unfold encMinor
  constructor <;> simp (disch := decide) only [BitVec.extractLsb'_append_eq_of_add_le]

/-! ## The formats without an encoding function -/

/-- The fields of `l.adrp`, whose format has no encoding function of its own. -/
theorem encode_lAdrp_fields (d : RegNo) (i : BitVec 21) :
    (encode (.lAdrp d i)).extractLsb' 26 6 = 0x02#6 ∧
    (encode (.lAdrp d i)).extractLsb' 21 5 = d ∧
    (encode (.lAdrp d i)).extractLsb' 0 21 = i := by
  unfold encode
  refine ⟨?_, ?_, ?_⟩ <;>
    simp (disch := decide) only [BitVec.extractLsb'_append_eq_of_le, BitVec.extractLsb'_append_eq_of_add_le,
      Nat.reduceSub, BitVec.extractLsb'_eq_self]

/-- The fields of `l.cust5`. -/
theorem encode_lCust5_fields (d a b k : BitVec 5) (l : BitVec 6) :
    (encode (.lCust5 d a b l k)).extractLsb' 26 6 = 0x3C#6 ∧
    (encode (.lCust5 d a b l k)).extractLsb' 21 5 = d ∧
    (encode (.lCust5 d a b l k)).extractLsb' 16 5 = a ∧
    (encode (.lCust5 d a b l k)).extractLsb' 11 5 = b ∧
    (encode (.lCust5 d a b l k)).extractLsb' 5 6 = l ∧
    (encode (.lCust5 d a b l k)).extractLsb' 0 5 = k := by
  unfold encode
  refine ⟨?_, ?_, ?_, ?_, ?_, ?_⟩ <;>
    simp (disch := decide) only [BitVec.extractLsb'_append_eq_of_le, BitVec.extractLsb'_append_eq_of_add_le,
      Nat.reduceSub, BitVec.extractLsb'_eq_self]

/-- The fields of a word written as its upper half and an immediate, as l.nop, l.sys and l.trap are. -/
theorem halves_fields (h k : BitVec 16) :
    (h ++ k : Word32).extractLsb' 26 6 = h.extractLsb' 10 6 ∧
    (h ++ k : Word32).extractLsb' 24 2 = h.extractLsb' 8 2 ∧
    (h ++ k : Word32).extractLsb' 16 10 = h.extractLsb' 0 10 ∧
    (h ++ k : Word32).extractLsb' 0 16 = k := by
  refine ⟨?_, ?_, ?_, ?_⟩ <;>
    simp (disch := decide) only [BitVec.extractLsb'_append_eq_of_le, BitVec.extractLsb'_append_eq_of_add_le,
      BitVec.extractLsb'_eq_self]

/-! ## The round trip -/

/-- Every operand returns from the field it was put in, and the opcodes lead back to the instruction. The instructions
stand in groups, one for each format and decoder. -/
theorem decodeWord_encode (i : Instr) : decodeWord (encode i) = .ok i := by
  cases i with
  | lAdd | lAddc | lSub | lAnd | lOr | lXor | lCmov | lMul | lMulu | lMuld | lMuldu | lDiv | lDivu | lFf1 | lFl1 =>
    simp [encode, decodeWord_encAlu, decodeAlu, fieldD, fieldA, fieldB, encAlu_fields]
  | lSll | lSrl | lSra | lRor =>
    simp [encode, decodeWord_encSub, decodeAlu, decodeShift, fieldD, fieldA, fieldB, encSub_fields, encSub_group]
  | lExtbs | lExtbz | lExths | lExthz | lExtws | lExtwz =>
    simp [encode, decodeWord_encSub, decodeAlu, decodeExtHalf, decodeExtWord, fieldD, fieldA, encSub_fields,
      encSub_group]
  | lSlli | lSrli | lSrai | lRori => simp [encode, decodeWord_encShi, decodeShi, fieldD, fieldA, encShi_fields]
  | lSfeq | lSfne | lSfgtu | lSfgeu | lSfltu | lSfleu | lSfgts | lSfges | lSflts | lSfles =>
    simp [encode, decodeWord_encSf, decodeSf, fieldA, fieldB, encSf_fields]
  | lSfeqi | lSfnei | lSfgtui | lSfgeui | lSfltui | lSfleui | lSfgtsi | lSfgesi | lSfltsi | lSflesi =>
    simp [encode, decodeWord_encSfi, decodeSfi, fieldA, fieldI, encSfi_fields]
  | lMac | lMacu | lMsb | lMsbu => simp [encode, decodeWord_encMac, decodeMac, fieldA, fieldB, encMac_fields]
  | lAddi | lAddic | lAndi | lOri | lXori | lMuli | lMaci | lMfspr | lLbz | lLbs | lLhz | lLhs | lLwz | lLws | lLd | lLf
  | lLwa =>
    simp [encode, decodeWord, fieldD, fieldA, fieldI, encRri_fields]
  | lMovhi | lMacrc => simp [encode, decodeWord, decodeMovhi, fieldD, fieldI, encRri_fields, encRri_bit16]
  | lSb | lSh | lSw | lSd | lSwa | lMtspr =>
    simp [encode, decodeWord, fieldA, fieldB, encStore_fields, encStore_imm]
  | lBf | lBnf | lJ | lJal => simp [encode, decodeWord, encJ_fields]
  | lJr | lJalr => simp [encode, decodeWord, fieldB, encJr_fields]
  | lAdrp => simp [decodeWord, fieldD, encode_lAdrp_fields]
  | lCust5 => simp [decodeWord, fieldD, fieldA, fieldB, encode_lCust5_fields]
  | lNop => simp [encode, decodeWord, decodeNop, fieldI, halves_fields]
  | lSys | lTrap => simp [encode, decodeWord, decodeSys, fieldI, halves_fields]
  | lRfe | lMsync | lPsync | lCsync | lCust1 | lCust2 | lCust3 | lCust4 | lCust6 | lCust7 | lCust8 | lvCust1 | lvCust2
  | lvCust3 | lvCust4 => rfl
  | lfAddS | lfSubS | lfMulS | lfDivS | lfItofS | lfFtoiS | lfMaddS | lfSfeqS | lfSfneS | lfSfgtS | lfSfgeS | lfSfltS
  | lfSfleS | lfSfueqS | lfSfuneS | lfSfugtS | lfSfugeS | lfSfultS | lfSfuleS | lfSfunS | lfCust1S | lfCust1D =>
    simp [encode, decodeWord_encMinor_fp, decodeFp, decodeFp0, decodeFp2, fieldD, fieldA, fieldB, encMinor_fields,
      encMinor_halves]
  | lfAddD | lfSubD | lfMulD | lfDivD | lfItofD | lfFtoiD | lfStodD | lfDtosD | lfMaddD | lfSfeqD | lfSfneD | lfSfgtD
  | lfSfgeD | lfSfltD | lfSfleD | lfSfueqD | lfSfuneD | lfSfugtD | lfSfugeD | lfSfultD | lfSfuleD | lfSfunD =>
    simp [encode, decodeWord_encMinor_fp, decodeFp, decodeFp1, decodeFp3, fieldD, fieldA, fieldB, fieldD2, fieldA2,
      fieldB2, encMinor_fields, encMinor_halves]
  | lvAllEqB | lvAllEqH | lvAllGeB | lvAllGeH | lvAllGtB | lvAllGtH | lvAllLeB | lvAllLeH | lvAllLtB | lvAllLtH
  | lvAllNeB | lvAllNeH =>
    simp [encode, decodeWord_encMinor_vec, decodeVec, decodeVec1, fieldD, fieldA, fieldB, encMinor_fields,
      encMinor_halves]
  | lvAnyEqB | lvAnyEqH | lvAnyGeB | lvAnyGeH | lvAnyGtB | lvAnyGtH | lvAnyLeB | lvAnyLeH | lvAnyLtB | lvAnyLtH
  | lvAnyNeB | lvAnyNeH =>
    simp [encode, decodeWord_encMinor_vec, decodeVec, decodeVec2, fieldD, fieldA, fieldB, encMinor_fields,
      encMinor_halves]
  | lvAddB | lvAddH | lvAddsB | lvAddsH | lvAdduB | lvAdduH | lvAddusB | lvAddusH | lvAnd | lvAvgB | lvAvgH =>
    simp [encode, decodeWord_encMinor_vec, decodeVec, decodeVec3, fieldD, fieldA, fieldB, encMinor_fields,
      encMinor_halves]
  | lvCmpEqB | lvCmpEqH | lvCmpGeB | lvCmpGeH | lvCmpGtB | lvCmpGtH | lvCmpLeB | lvCmpLeH | lvCmpLtB | lvCmpLtH
  | lvCmpNeB | lvCmpNeH =>
    simp [encode, decodeWord_encMinor_vec, decodeVec, decodeVec4, fieldD, fieldA, fieldB, encMinor_fields,
      encMinor_halves]
  | lvMaddsH | lvMaxB | lvMaxH | lvMergeB | lvMergeH | lvMinB | lvMinH | lvMsubsH | lvMulsH | lvNand | lvNor
  | lvOr =>
    simp [encode, decodeWord_encMinor_vec, decodeVec, decodeVec5, fieldD, fieldA, fieldB, encMinor_fields,
      encMinor_halves]
  | lvPackB | lvPackH | lvPacksB | lvPacksH | lvPackusB | lvPackusH | lvPermN | lvRlB | lvRlH | lvSllB | lvSllH
  | lvSll | lvSrlB | lvSrlH | lvSraB | lvSraH =>
    simp [encode, decodeWord_encMinor_vec, decodeVec, decodeVec6, fieldD, fieldA, fieldB, encMinor_fields,
      encMinor_halves]
  | lvSrl | lvSubB | lvSubH | lvSubsB | lvSubsH | lvSubuB | lvSubuH | lvSubusB | lvSubusH | lvUnpackB | lvUnpackH
  | lvXor =>
    simp [encode, decodeWord_encMinor_vec, decodeVec, decodeVec7, fieldD, fieldA, fieldB, encMinor_fields,
      encMinor_halves]

end Sys2Proof

namespace Sys2Proof.Machine

/-- Settles O1: the bytes of a word decode as the word, and every encoded word to its instruction. -/
theorem encodeDecodeRoundTrip : Obligations.EncodeDecodeRoundTrip := by
  intro i
  rw [decode_bytesOfWord, decodeWord_encode]

end Sys2Proof.Machine
end

section
/-! PROOF. Illegal instructions: what the implementation lacks, and fetches that bring no instruction. -/

namespace Sys2Proof.Machine

/-! ## An instruction that the implementation lacks -/

/-- Every instruction passes the checks on itself before it has any effect. -/
theorem exec_gated (i : Instr) (s : State) : ∃ run, exec i s = gate i s run := by
  cases i <;> exact ⟨_, rfl⟩

/-- Settles O18: the checks before an instruction answer for one that is not implemented, whatever it would do. -/
theorem unimplementedIllegal : Obligations.UnimplementedIllegal := by
  intro i s absent
  obtain ⟨run, gated⟩ := exec_gated i s
  rw [gated, gate_unimplemented absent]

/-! ## A fetch that brings no instruction -/

/-- A running core with nothing pending fetches (R901 step 7). -/
theorem step_fetches {s : State} (reset : resetAsserted s = false) (running : (beginStep s).status = .running)
    (pending : pendingEntry (beginStep s) = none) : step s = fetchAndRun (beginStep s) := by
  simp only [step, cycle, reset, Bool.false_eq_true, if_false, running, runCore, pending]

theorem countEvent_noPcu {s : State} (noPcu : s.cfg.hasPcu = false) (sel : Nat) (sm : Bool) (n : Nat) :
    countEvent sel sm n s = s := by
  simp [countEvent, noPcu]

theorem countMiss_noPcu {s : State} (noPcu : s.cfg.hasPcu = false) (sm : Bool) : countMiss sm s = s := by
  unfold countMiss
  split
  · exact countEvent_noPcu noPcu ..
  · exact countEvent_noPcu noPcu ..
  · rfl

theorem debugBefore_noDu {s : State} (noDu : s.cfg.hasDu = false) : debugBefore s = (0, s) := by
  simp [debugBefore, noDu]

@[simp] theorem breakpoints_zero (s : State) : breakpoints s 0#10 = 0#10 := by simp [breakpoints]

/-- Without debug unit and performance counters nothing but the decoder looks at a fetched word (R320). -/
theorem runWord_undecoded {w : Word32} {x : Undecoded} {s : State} (noDu : s.cfg.hasDu = false)
    (noPcu : s.cfg.hasPcu = false) (undecoded : decodeWord w = .error x) : runWord w s = illegal s := by
  simp [runWord, countEvent_noPcu noPcu, debugBefore_noDu noDu, undecoded]

/-- Settles O5: after a fetch, which keeps the configuration, only the decoder's refusal or the fetch's own exception
is left. -/
theorem undecodedWordIllegal : Obligations.UndecodedWordIllegal := by
  rintro s _ rfl reset running pending noDu noPcu
  obtain ⟨fetched, raised⟩ := fetchWord_keeps (beginStep s)
  rw [step_fetches reset running pending]
  refine ⟨fun w x t hf undecoded => ?word, fun e t hf => ?exception⟩
  case word =>
    have cfg := (fetched w t hf).cfg
    have run : fetchAndRun (beginStep s) = runWord w t := by simp only [fetchAndRun, hf]
    rw [run, runWord_undecoded (by rw [cfg, noDu]) (by rw [cfg, noPcu]) undecoded]
    rfl
  case exception =>
    have cfg := ((raised e t hf).trans (enter_keeps e t.pc (some (trunc t.cfg t.pc)) t)).cfg
    simp only [fetchAndRun, hf, countMiss_noPcu (cfg.symm ▸ noPcu)]

end Sys2Proof.Machine
end

section
/-! PROOF. Arithmetic instructions: what they have written when they end, and the two ways an ending goes. -/

namespace Sys2Proof.Machine

/-! ## The record of the causes -/

/-- The record of the causes as one update. -/
theorem recordCauses_eq (s : State) (causes : Word32) :
    s.recordCauses causes =
      { s with aesr := if s.cfg.hasAecr then s.aesr ||| (s.aecr &&& causes) else s.aesr } := by
  unfold State.recordCauses; split <;> rfl

/-! ## A state with a result written -/

/-- The state `u` is `s` with rD and flags of SR written; neither the context nor SR[OVE] depends on those flags. -/
structure Wrote (s u : State) (d : RegNo) (v : Word) (w : Word32) : Prop where
  /-- Nothing but the register file and SR is written. -/
  state : u = { s with gpr := (s.setReg d v).gpr, sr := w }
  /-- The current context is as it was. -/
  ctx : u.ctx = s.ctx
  /-- So is SR[OVE]. -/
  ove : u.ove = s.ove

namespace Wrote

theorem setReg (s : State) (d : RegNo) (v : Word) : Wrote s (s.setReg d v) d v s.sr := ⟨rfl, rfl, rfl⟩

variable {s u : State} {d : RegNo} {v : Word} {w : Word32}

theorem setCy (h : Wrote s u d v w) (b : Bool) : Wrote s (u.setCy b) d v (putBit w 10 b) :=
  ⟨by rw [State.setCy, h.state], (ctx_setCy u b).trans h.ctx, (ove_setCy u b).trans h.ove⟩

theorem setOv (h : Wrote s u d v w) (b : Bool) : Wrote s (u.setOv b) d v (putBit w 11 b) :=
  ⟨by rw [State.setOv, h.state], (ctx_setOv u b).trans h.ctx, (ove_setOv u b).trans h.ove⟩

theorem reg_self (h : Wrote s u d v w) : u.reg d = trunc s.cfg v := by
  rw [reg_of_gpr (by rw [h.state]) h.ctx d v (by rw [h.state]), if_pos rfl]

theorem rangeDue_eq (h : Wrote s u d v w) (causes : Word32) (ov : Bool) :
    rangeDue u causes ov = rangeDue s causes ov :=
  rangeDue_congr causes ov h.ove (by rw [h.state]) (by rw [h.state])

/-- Where no range exception is due, the core goes on with the result written (R401). -/
theorem finishes (h : Wrote s u d v w) {causes : Word32} {ov : Bool} (due : rangeDue s causes ov = false) :
    finishArith causes ov u = .next (advance u) :=
  finishArith_done ((h.rangeDue_eq causes ov).trans due)

/-- The state that the range exception is taken in: causes recorded, PPC the instruction's own address. -/
theorem trapped_eq (h : Wrote s u d v w) (causes : Word32) :
    executed (u.recordCauses causes) = { s with
      gpr := (s.setReg d v).gpr, sr := w, ppc := s.pc
      aesr := if s.cfg.hasAecr then s.aesr ||| (s.aecr &&& causes) else s.aesr } := by
  rw [h.state, recordCauses_eq]; rfl

/-- Where one is due, it follows the result and the record of its causes, with the instruction's own address (R401). -/
theorem traps (h : Wrote s u d v w) {causes : Word32} {ov : Bool} (due : rangeDue s causes ov = true) :
    finishArith causes ov u = .next (enter .range s.pc none (executed (u.recordCauses causes))) := by
  rw [finishArith_trap ((h.rangeDue_eq causes ov).trans due), h.state]

variable {i : Instr} {causes : Word32} {ov : Bool} {v' : Word}

theorem regResult (h : Wrote s u d v w) (run : exec i s = finishArith causes ov u)
    (due : rangeDue s causes ov = false) (value : trunc s.cfg v = v') : RegResult i s d v' w :=
  regResult_intro (run.trans (h.finishes due)) h.state h.ctx value

theorem rangeResult (h : Wrote s u d v w) (run : exec i s = finishArith causes ov u)
    (due : rangeDue s causes ov = true) (value : trunc s.cfg v = v') : RangeResult i s d v' w causes := by
  have reg : (executed (u.recordCauses causes)).reg d = u.reg d := by simp [State.reg]
  refine ⟨_, run.trans (h.traps due), reg.trans (h.reg_self.trans value), ?_⟩
  rw [h.trapped_eq]
  exact ⟨rfl, rfl, rfl, gprFrame_setReg d v rfl, rfl⟩

end Wrote

/-! ## Additions and the subtraction -/

theorem addState_wrote (d : RegNo) (x y : Word) (cin : Bool) (s : State) :
    Wrote s (addState d x y cin s) d (ofN s.cfg (toU s.cfg x + toU s.cfg y + cin.toNat))
      (srFlags s.sr (addCarry s.cfg x y cin) (addOverflow s.cfg x y cin)) :=
  ((Wrote.setReg s d _).setCy _).setOv _

theorem subState_wrote (d : RegNo) (x y : Word) (s : State) :
    Wrote s (subState d x y s) d (ofI s.cfg (toS s.cfg x - toS s.cfg y))
      (srFlags s.sr (subCarry s.cfg x y) (subOverflow s.cfg x y)) :=
  ((Wrote.setReg s d _).setCy _).setOv _

theorem addResult_of_exec {i : Instr} {s : State} {d : RegNo} {x y : Word} {cin : Bool}
    (run : exec i s = addInto d x y cin s) : AddResult i s d x y cin.toNat := by
  rintro _ _ rfl rfl due
  exact (addState_wrote d x y cin s).regResult run due (trunc_ofN _ _)

theorem addTrap_of_exec {i : Instr} {s : State} {d : RegNo} {x y : Word} {cin : Bool}
    (run : exec i s = addInto d x y cin s) : AddTrap i s d x y cin.toNat := by
  rintro _ _ rfl rfl due
  exact (addState_wrote d x y cin s).rangeResult run due (trunc_ofN _ _)

/-- Settles O21: every addition is `addInto` and the subtraction ends likewise. -/
theorem addSubtractResults : Obligations.AddSubtractResults := by
  intro s d a b i
  refine ⟨?add, ?addi, ?addc, ?addic, ?sub⟩
  case add => exact fun ready => addResult_of_exec (cin := false) (gate_ready ready _)
  case addi => exact fun ready => addResult_of_exec (cin := false) (gate_ready ready _)
  case addc => exact fun ready => addResult_of_exec (gate_ready ready _)
  case addic => exact fun ready => addResult_of_exec (gate_ready ready _)
  case sub => exact fun ready due => (subState_wrote d _ _ s).regResult (gate_ready ready _) due (trunc_ofI _ _)

/-! ## Multiplications -/

theorem mulState_wrote (d : RegNo) (x y : Word) (s : State) :
    Wrote s (mulState d x y s) d (ofI s.cfg (toS s.cfg x * toS s.cfg y)) (putBit s.sr 11 (mulOverflow s.cfg x y)) :=
  (Wrote.setReg s d _).setOv _

theorem muluState_wrote (d : RegNo) (x y : Word) (s : State) :
    Wrote s (muluState d x y s) d (ofN s.cfg (toU s.cfg x * toU s.cfg y)) (putBit s.sr 10 (mulCarry s.cfg x y)) :=
  (Wrote.setReg s d _).setCy _

/-- Settles O25: the product and its flag are written, and no exception follows. -/
theorem multiplyResults : Obligations.MultiplyResults := by
  intro s d a b i
  refine ⟨?mul, ?muli, ?mulu⟩
  case mul =>
    rintro ready _ rfl due
    exact (mulState_wrote d _ _ s).regResult (gate_ready ready _) due (trunc_ofI _ _)
  case muli =>
    rintro ready _ rfl due
    exact (mulState_wrote d _ _ s).regResult (gate_ready ready _) due (trunc_ofI _ _)
  case mulu =>
    rintro ready _ rfl due
    exact (muluState_wrote d _ _ s).regResult (gate_ready ready _) due (trunc_ofN _ _)

/-- Settles O22: the state that the range exception is taken in has the result, the flags and the causes. -/
theorem rangeExceptionAfterResult : Obligations.RangeExceptionAfterResult := by
  intro s d a b i
  refine ⟨?add, ?addi, ?addc, ?addic, ?sub, ?mul, ?muli, ?mulu⟩
  case add => exact fun ready => addTrap_of_exec (cin := false) (gate_ready ready _)
  case addi => exact fun ready => addTrap_of_exec (cin := false) (gate_ready ready _)
  case addc => exact fun ready => addTrap_of_exec (gate_ready ready _)
  case addic => exact fun ready => addTrap_of_exec (gate_ready ready _)
  case sub =>
    rintro ready _ _ rfl rfl due
    exact (subState_wrote d _ _ s).rangeResult (gate_ready ready _) due (trunc_ofI _ _)
  case mul =>
    rintro ready _ rfl due
    exact (mulState_wrote d _ _ s).rangeResult (gate_ready ready _) due (trunc_ofI _ _)
  case muli =>
    rintro ready _ rfl due
    exact (mulState_wrote d _ _ s).rangeResult (gate_ready ready _) due (trunc_ofI _ _)
  case mulu =>
    rintro ready _ rfl due
    exact (muluState_wrote d _ _ s).rangeResult (gate_ready ready _) due (trunc_ofN _ _)

end Sys2Proof.Machine
end

section
/-! PROOF. Divisions, with their free quotient by zero, and products in the accumulator. -/

namespace Sys2Proof.Machine

/-! ## Divisions -/

section
variable {i : Instr} {s u : State} {d a b : RegNo} {v : Word} {w causes : Word32} {ov : Bool}

/-- With a free value drawn for rD, an instruction for which no range exception is due goes on (R401, log 10). -/
theorem Wrote.drawn_completes (h : Wrote s.drawn u d v w) (run : exec i s = finishArith causes ov u)
    (due : rangeDue s causes ov = false) :
    ∃ t, exec i s = .next t ∧ t.sr = w ∧ GoesOn s t ∧ GprFrame s t [d] ∧ MemFrame s t []
      ∧ t = { s with gpr := t.gpr, sr := t.sr, pc := t.pc, ppc := t.ppc, ds := t.ds, free := t.free } := by
  refine ⟨_, run.trans (h.finishes due), ?_⟩
  rw [advance_eq, h.state]
  exact ⟨rfl, ⟨rfl, rfl, rfl⟩, gprFrame_setReg d v rfl, memFrame_refl rfl _, rfl⟩

/-- With a free value drawn for rD, the range exception follows where it is due (R401, log 10). -/
theorem Wrote.drawn_traps (h : Wrote s.drawn u d v w) (run : exec i s = finishArith causes ov u)
    (due : rangeDue s causes ov = true) :
    ∃ t, exec i s = .next (enter .range s.pc none t) ∧ t.sr = w ∧ GprFrame s t [d]
      ∧ t = { s with gpr := t.gpr, sr := t.sr, ppc := s.pc, aesr := t.aesr, free := t.free } := by
  refine ⟨_, run.trans (h.traps due), ?_⟩
  rw [h.trapped_eq]
  exact ⟨rfl, gprFrame_setReg d v rfl, rfl⟩

theorem exec_lDiv_nonzero (ready : Ready s (.lDiv d a b)) (nonzero : toS s.cfg (s.reg b) ≠ 0) :
    exec (.lDiv d a b) s = finishArith 0 false
      ((s.setReg d (ofI s.cfg (Int.tdiv (toS s.cfg (s.reg a)) (toS s.cfg (s.reg b))))).setOv false) :=
  (gate_ready ready _).trans (by simp [divState, nonzero, causeIf])

theorem exec_lDivu_nonzero (ready : Ready s (.lDivu d a b)) (nonzero : toU s.cfg (s.reg b) ≠ 0) :
    exec (.lDivu d a b) s = finishArith 0 false
      ((s.setReg d (ofN s.cfg (toU s.cfg (s.reg a) / toU s.cfg (s.reg b)))).setCy false) :=
  (gate_ready ready _).trans (by simp [divuState, nonzero, causeIf])

theorem exec_lDiv_zero (ready : Ready s (.lDiv d a b)) (zero : toS s.cfg (s.reg b) = 0) :
    exec (.lDiv d a b) s = finishArith causeDbz true ((s.drawn.setReg d s.freeWord).setOv true) :=
  (gate_ready ready _).trans (by simp [divState, zero, causeIf])

theorem exec_lDivu_zero (ready : Ready s (.lDivu d a b)) (zero : toU s.cfg (s.reg b) = 0) :
    exec (.lDivu d a b) s = finishArith causeDbz false ((s.drawn.setReg d s.freeWord).setCy true) :=
  (gate_ready ready _).trans (by simp [divuState, zero, causeIf])

end

/-- Settles O27: a division by another divisor than zero meets no cause of a range exception. -/
theorem divideResults : Obligations.DivideResults := by
  intro s d a b
  constructor
  · exact fun ready nonzero => ((Wrote.setReg s d _).setOv false).regResult (exec_lDiv_nonzero ready nonzero)
      (rangeDue_none s) (trunc_ofI _ _)
  · exact fun ready nonzero => ((Wrote.setReg s d _).setCy false).regResult (exec_lDivu_nonzero ready nonzero)
      (rangeDue_none s) (trunc_ofN _ _)

/-- Settles O28: a division by zero draws a free quotient, sets its flag and meets AECR[DBZE]. -/
theorem divideByZeroFree : Obligations.DivideByZeroFree := by
  intro s d a b
  have signed := (Wrote.setReg s.drawn d s.freeWord).setOv true
  have unsigned := (Wrote.setReg s.drawn d s.freeWord).setCy true
  exact ⟨fun ready zero due => signed.drawn_completes (exec_lDiv_zero ready zero) due,
    fun ready zero due => unsigned.drawn_completes (exec_lDivu_zero ready zero) due,
    fun ready zero due => signed.drawn_traps (exec_lDiv_zero ready zero) due,
    fun ready zero due => unsigned.drawn_traps (exec_lDivu_zero ready zero) due⟩

/-! ## Products in the accumulator -/

theorem mac_setMac (s : State) (v : BitVec 64) : (s.setMac v).mac = v := by
  rw [State.mac, State.setMac_machi, State.setMac_maclo,
    BitVec.extractLsb'_append_extractLsb'_eq_extractLsb' (by decide), BitVec.extractLsb'_eq_self]

theorem rangeDue_of_not_ove {s : State} (off : s.ove = false) (causes : Word32) (ov : Bool) :
    rangeDue s causes ov = false := by simp [rangeDue, off]

theorem macResult_of_exec {i : Instr} {s : State} {v : BitVec 64} (run : exec i s = .next (advance (s.setMac v))) :
    MacResult i s v s.sr := by
  refine ⟨_, run, by simpa [State.mac] using mac_setMac s v, ?_⟩
  rw [advance_eq]
  exact ⟨rfl, ⟨rfl, rfl, rfl⟩, gprFrame_refl rfl _, memFrame_refl rfl _, rfl⟩

/-- An instruction that has written the accumulator and SR and has drawn free values goes on. -/
theorem accumulator_completes {i : Instr} {s u : State} {w : Word32} (run : exec i s = .next (advance u))
    (wrote : u = { s with maclo := u.maclo, machi := u.machi, sr := w, free := u.free }) :
    ∃ t, exec i s = .next t ∧ t.sr = w ∧ GoesOn s t ∧ GprFrame s t [] ∧ MemFrame s t []
      ∧ t = { s with maclo := t.maclo, machi := t.machi, sr := t.sr, pc := t.pc, ppc := t.ppc, ds := t.ds,
                     free := t.free } := by
  refine ⟨_, run, ?_⟩
  rw [advance_eq, wrote]
  exact ⟨rfl, ⟨rfl, rfl, rfl⟩, gprFrame_refl rfl _, memFrame_refl rfl _, rfl⟩

theorem exec_lMuld_x32 {s : State} {a b : RegNo} (ready : Ready s (.lMuld a b)) (x32 : s.cfg.xlen = .x32) :
    exec (.lMuld a b) s =
      .next (advance (s.setMac (BitVec.ofInt 64 (toS s.cfg (s.reg a) * toS s.cfg (s.reg b))))) :=
  (gate_ready ready _).trans (by rw [x32])

theorem exec_lMuldu_x32 {s : State} {a b : RegNo} (ready : Ready s (.lMuldu a b)) (x32 : s.cfg.xlen = .x32) :
    exec (.lMuldu a b) s =
      .next (advance (s.setMac (BitVec.ofNat 64 (toU s.cfg (s.reg a) * toU s.cfg (s.reg b))))) :=
  (gate_ready ready _).trans (by rw [x32])

/-- On XLEN = 64 without overflow exceptions the accumulator and the flag are free values (log 11). -/
theorem exec_lMuld_x64 {s : State} {a b : RegNo} (ready : Ready s (.lMuld a b)) (x64 : s.cfg.xlen = .x64)
    (off : s.ove = false) :
    exec (.lMuld a b) s =
      .next (advance ((s.setMac s.freeWord).drawn.drawn.setOv (s.drawn.freeWord.getLsbD 0))) :=
  (gate_ready ready _).trans (by
    rw [x64]
    exact finishArith_done (rangeDue_of_not_ove (by simpa using off) _ _))

theorem exec_lMuldu_x64 {s : State} {a b : RegNo} (ready : Ready s (.lMuldu a b)) (x64 : s.cfg.xlen = .x64)
    (off : s.ove = false) :
    exec (.lMuldu a b) s =
      .next (advance ((s.setMac s.freeWord).drawn.drawn.setCy (s.drawn.freeWord.getLsbD 0))) :=
  (gate_ready ready _).trans (by
    rw [x64]
    exact finishArith_done (rangeDue_of_not_ove (by simpa using off) _ _))

/-- Settles O26: on XLEN = 32 the accumulator holds the product, on XLEN = 64 free values are drawn for it and the
flag. -/
theorem accumulatorProducts : Obligations.AccumulatorProducts := by
  intro s a b
  refine ⟨?signed32, ?unsigned32, ?signed64, ?unsigned64⟩
  case signed32 => exact fun ready x32 => macResult_of_exec (exec_lMuld_x32 ready x32)
  case unsigned32 => exact fun ready x32 => macResult_of_exec (exec_lMuldu_x32 ready x32)
  case signed64 =>
    intro ready x64 off
    obtain ⟨t, completes⟩ := accumulator_completes (exec_lMuld_x64 ready x64 off) rfl
    exact ⟨t, _, completes⟩
  case unsigned64 =>
    intro ready x64 off
    obtain ⟨t, completes⟩ := accumulator_completes (exec_lMuldu_x64 ready x64 off) rfl
    exact ⟨t, _, completes⟩

end Sys2Proof.Machine
end

section
/-! PROOF. Logic, moves, shifts, extensions and searches for a set bit: the values as arithmetic. -/

namespace Sys2Proof.Machine

/-! ## Logic and moves -/

/-- Clearing the low 13 bits rounds down to the page of R414. -/
theorem and_page_eq (x : Word) : x &&& ~~~0x1FFF#64 = BitVec.ofNat 64 (x.toNat / 2 ^ 13 * 2 ^ 13) := by
  have mask : x &&& ~~~0x1FFF#64 = x >>> 13 <<< 13 := (BitVec.shiftLeft_ushiftRight (n := 13)).symm
  refine BitVec.eq_of_toNat_eq ?_
  rw [mask, BitVec.toNat_shiftLeft, BitVec.toNat_ushiftRight, Nat.shiftRight_eq_div_pow, Nat.shiftLeft_eq,
    BitVec.toNat_ofNat]

theorem movhiValue_eq (c : Config) (k : BitVec 16) :
    movhiValue c k = if c.movhiSigned then (BitVec.ofNat 32 (k.toNat * 2 ^ 16)).signExtend 64
      else BitVec.ofNat 64 (k.toNat * 2 ^ 16) := by
  have upper : k ++ 0#16 = BitVec.ofNat 32 (k.toNat * 2 ^ 16) := by
    refine BitVec.eq_of_toNat_eq ?_
    have small := k.isLt
    rw [BitVec.toNat_append, BitVec.toNat_ofNat, BitVec.toNat_ofNat, Nat.shiftLeft_eq, Nat.zero_mod, Nat.or_zero,
      Nat.mod_eq_of_lt (by omega)]
  have shifted : zext k <<< 16 = BitVec.ofNat 64 (k.toNat * 2 ^ 16) := by
    refine BitVec.eq_of_toNat_eq ?_
    simp [zext, Nat.shiftLeft_eq]
  rw [movhiValue, upper, shifted]

/-- Settles O23: every operand is within XLEN bits, and so is every result but l.movhi's and l.adrp's, which are cut. -/
theorem logicAndMoveResults : Obligations.LogicAndMoveResults := by
  intro s d a b i k p
  have immediate : trunc s.cfg (zext k) = zext k := trunc_zext s.cfg k (by decide)
  refine ⟨?and, ?andi, ?or, ?ori, ?xor, ?xori, ?movhi, ?adrp, ?taken, ?notTaken⟩
  case and => exact fun ready => regResult_plain (gate_ready ready _) (by rw [trunc_and, trunc_reg, trunc_reg])
  case andi => exact fun ready => regResult_plain (gate_ready ready _) (by rw [trunc_and, trunc_reg, immediate]; rfl)
  case or => exact fun ready => regResult_plain (gate_ready ready _) (by rw [trunc_or, trunc_reg, trunc_reg])
  case ori => exact fun ready => regResult_plain (gate_ready ready _) (by rw [trunc_or, trunc_reg, immediate]; rfl)
  case xor => exact fun ready => regResult_plain (gate_ready ready _) (by rw [trunc_xor, trunc_reg, trunc_reg])
  case xori => exact fun ready => regResult_plain (gate_ready ready _) (by rw [trunc_xor, trunc_reg, trunc_sext])
  case movhi => exact fun ready => regResult_plain (gate_ready ready _) (by rw [movhiValue_eq])
  case adrp => exact fun ready => regResult_plain (gate_ready ready _) (by rw [and_page_eq])
  case taken =>
    exact fun ready flag => regResult_plain (gate_ready ready _) (by rw [if_pos flag, trunc_reg])
  case notTaken =>
    exact fun ready flag => regResult_plain (gate_ready ready _) (by simp [flag])

/-! ## Shifts and rotates -/

theorem xlenBits_dvd (c : Config) : xlenBits c ∣ 2 ^ 6 := by
  unfold xlenBits; cases c.xlen <;> decide

theorem two_pow_xlenBits_dvd (c : Config) : 2 ^ xlenBits c ∣ 2 ^ 64 :=
  Nat.pow_dvd_pow 2 (Nat.le_of_dvd (by decide) (xlenBits_dvd c))

theorem toNat_ofN (c : Config) (n : Nat) : (ofN c n).toNat = n % 2 ^ xlenBits c := by
  rw [ofN, trunc_eq_mod, BitVec.toNat_ofNat, Nat.mod_mod_of_dvd _ (two_pow_xlenBits_dvd c)]

theorem shiftCount_eq (c : Config) (l : BitVec 6) : shiftCount c l = l.toNat % xlenBits c := by
  unfold shiftCount xlenBits
  cases c.xlen
  · exact BitVec.toNat_setWidth 5 l
  · exact (Nat.mod_eq_of_lt l.isLt).symm

theorem State.regCount_eq (s : State) (b : RegNo) : s.regCount b = (s.reg b).toNat % xlenBits s.cfg := by
  rw [State.regCount, shiftCount_eq, BitVec.toNat_setWidth, Nat.mod_mod_of_dvd _ (xlenBits_dvd s.cfg)]

theorem shiftCount_lt (c : Config) (l : BitVec 6) : shiftCount c l < xlenBits c := by
  rw [shiftCount_eq]
  exact Nat.mod_lt _ (Nat.pos_of_dvd_of_pos (xlenBits_dvd c) (by decide))

theorem trunc_shiftLeft (c : Config) (x : Word) (n : Nat) : trunc c (shiftLeft c x n) = ofN c (toU c x * 2 ^ n) := by
  refine BitVec.eq_of_toNat_eq ?_
  rw [shiftLeft, trunc_trunc, trunc_eq_mod, toNat_ofN, toU_eq_mod, BitVec.toNat_shiftLeft, Nat.shiftLeft_eq,
    Nat.mod_mod_of_dvd _ (two_pow_xlenBits_dvd c), Nat.mod_mul_mod]

theorem trunc_shiftRight (c : Config) (x : Word) (n : Nat) : trunc c (shiftRight c x n) = ofN c (toU c x / 2 ^ n) := by
  refine BitVec.eq_of_toNat_eq ?_
  rw [shiftRight, trunc_eq_mod, toNat_ofN, toU_eq_mod, BitVec.toNat_ushiftRight, trunc_eq_mod,
    Nat.shiftRight_eq_div_pow]

theorem trunc_shiftArith (c : Config) (x : Word) (n : Nat) : trunc c (shiftArith c x n) = ofI c (toS c x / 2 ^ n) := by
  rw [shiftArith, trunc_ofI, Int.shiftRight_eq_div_pow]
  norm_cast

/-- The bits that leave at the right come in at the left: as a sum modulo `2 ^ w`. -/
theorem toNat_rotateRight_eq_sum {w : Nat} (x : BitVec w) {n : Nat} (hn : n < w) :
    (x.rotateRight n).toNat = (x.toNat / 2 ^ n + x.toNat * 2 ^ (w - n)) % 2 ^ w := by
  have split : 2 ^ w = 2 ^ (w - n) * 2 ^ n := by rw [← pow_add]; congr 1; omega
  have low : x.toNat / 2 ^ n < 2 ^ (w - n) := by
    rw [Nat.div_lt_iff_lt_mul (Nat.two_pow_pos n), ← split]; exact x.isLt
  have high : x.toNat * 2 ^ (w - n) % 2 ^ w = (x.toNat % 2 ^ n) <<< (w - n) := by
    rw [split, Nat.shiftLeft_eq, Nat.mul_comm x.toNat, Nat.mul_mod_mul_left, Nat.mul_comm]
  have sum : (x.toNat % 2 ^ n) <<< (w - n) + x.toNat / 2 ^ n < 2 ^ w := by
    have bound : x.toNat % 2 ^ n + 1 ≤ 2 ^ n := Nat.mod_lt _ (Nat.two_pow_pos n)
    have := Nat.mul_le_mul_right (2 ^ (w - n)) bound
    rw [split, Nat.shiftLeft_eq, Nat.mul_comm (2 ^ (w - n))]
    linarith
  rw [BitVec.toNat_rotateRight, Nat.mod_eq_of_lt hn, Nat.shiftRight_eq_div_pow, Nat.shiftLeft_eq, high, Nat.lor_comm,
    ← Nat.shiftLeft_add_eq_or_of_lt low, Nat.add_comm (x.toNat / 2 ^ n), Nat.add_mod, high,
    Nat.mod_eq_of_lt (low.trans_le (Nat.pow_le_pow_right (by decide) (by omega))), Nat.mod_eq_of_lt sum]

theorem trunc_rotate (c : Config) (x : Word) {n : Nat} (hn : n < xlenBits c) :
    trunc c (rotate c x n) = ofN c (toU c x / 2 ^ n + toU c x * 2 ^ (xlenBits c - n)) := by
  refine BitVec.eq_of_toNat_eq ?_
  rw [toNat_ofN, trunc_eq_mod]
  unfold rotate toU xlenBits at *
  cases h : c.xlen
  case x32 =>
    simp only [h] at hn ⊢
    rw [zext, BitVec.toNat_setWidth_of_le (by decide), toNat_rotateRight_eq_sum _ hn, Nat.mod_mod]
  case x64 =>
    simp only [h] at hn ⊢
    rw [toNat_rotateRight_eq_sum _ hn, Nat.mod_mod]

/-- Settles O24: each count is the operand modulo XLEN, and each shift the arithmetic that its rule gives. -/
theorem shiftResults : Obligations.ShiftResults := by
  intro s d a b l
  refine ⟨?sll, ?slli, ?srl, ?srli, ?sra, ?srai, ?ror, ?rori⟩
  case sll =>
    rintro ready _ rfl
    exact regResult_plain (gate_ready ready _) (by rw [trunc_shiftLeft, State.regCount_eq])
  case slli =>
    rintro ready _ rfl
    exact regResult_plain (gate_ready ready _) (by rw [trunc_shiftLeft, shiftCount_eq])
  case srl =>
    rintro ready _ rfl
    exact regResult_plain (gate_ready ready _) (by rw [trunc_shiftRight, State.regCount_eq])
  case srli =>
    rintro ready _ rfl
    exact regResult_plain (gate_ready ready _) (by rw [trunc_shiftRight, shiftCount_eq])
  case sra =>
    rintro ready _ rfl
    exact regResult_plain (gate_ready ready _) (by rw [trunc_shiftArith, State.regCount_eq])
  case srai =>
    rintro ready _ rfl
    exact regResult_plain (gate_ready ready _) (by rw [trunc_shiftArith, shiftCount_eq])
  case ror =>
    rintro ready _ rfl
    exact regResult_plain (gate_ready ready _)
      (by rw [trunc_rotate (n := s.regCount b) _ _ (shiftCount_lt ..), State.regCount_eq])
  case rori =>
    rintro ready _ rfl
    exact regResult_plain (gate_ready ready _) (by rw [trunc_rotate _ _ (shiftCount_lt ..), shiftCount_eq])

/-! ## Extensions -/

theorem sext_setWidth (c : Config) (x : Word) (n : Nat) :
    sext c (x.setWidth n) = ofI c (x.extractLsb' 0 n).toInt := by
  have low : x.extractLsb' 0 n = x.setWidth n := by ext j; simp
  rw [low]; rfl

theorem trunc_zext_setWidth (c : Config) (x : Word) {n : Nat} (hn : n ≤ 32) :
    trunc c (zext (x.setWidth n)) = BitVec.ofNat 64 (x.toNat % 2 ^ n) := by
  rw [trunc_zext c _ hn]
  refine BitVec.eq_of_toNat_eq ?_
  simp [zext]

/-! ## The first and the last set bit -/

theorem reg_getLsbD_lt {s : State} {a : RegNo} {n : Nat} (set : (s.reg a).getLsbD n = true) : n < xlenBits s.cfg := by
  by_contra beyond
  have small : (s.reg a).toNat < 2 ^ n :=
    (toNat_lt_of_trunc s.cfg _).trans_le (Nat.pow_le_pow_right (by decide) (Nat.le_of_not_lt beyond))
  rw [← BitVec.testBit_toNat, Nat.testBit_eq_false_of_lt small] at set
  cases set

theorem findFirst_zero (c : Config) : findFirst c 0 = 0 := by
  have unset : (List.range (xlenBits c)).find? (fun i => (0 : Word).getLsbD i) = none := by simp
  rw [findFirst, unset]

theorem findLast_zero (c : Config) : findLast c 0 = 0 := by
  have unset : (List.range (xlenBits c)).reverse.find? (fun i => (0 : Word).getLsbD i) = none := by simp
  rw [findLast, unset]

theorem findFirst_eq_of_lowest {c : Config} {x : Word} {n : Nat} (hn : n < xlenBits c) (set : x.getLsbD n = true)
    (lowest : ∀ m, m < n → x.getLsbD m = false) : findFirst c x = n + 1 := by
  have found : (List.range (xlenBits c)).find? (fun i => x.getLsbD i) = some n :=
    List.find?_range_eq_some.mpr ⟨set, List.mem_range.mpr hn, fun m hm => by simp [lowest m hm]⟩
  rw [findFirst, found]

/-- Searched from above, a range gives the highest number that satisfies the predicate. -/
theorem find?_reverse_range_of_highest {p : Nat → Bool} {n : Nat} (holds : p n = true)
    (highest : ∀ m, n < m → p m = false) (N : Nat) (hn : n < N) : (List.range N).reverse.find? p = some n := by
  induction N with
  | zero => omega
  | succ N ih =>
    rw [List.range_succ, List.reverse_append, List.reverse_singleton, List.singleton_append]
    rcases Nat.lt_succ_iff_lt_or_eq.mp hn with below | rfl
    · rw [List.find?_cons_of_neg (by simp [highest N below]), ih below]
    · exact List.find?_cons_of_pos holds

theorem findLast_eq_of_highest {c : Config} {x : Word} {n : Nat} (hn : n < xlenBits c) (set : x.getLsbD n = true)
    (highest : ∀ m, n < m → x.getLsbD m = false) : findLast c x = n + 1 := by
  have found : (List.range (xlenBits c)).reverse.find? (fun i => x.getLsbD i) = some n :=
    find?_reverse_range_of_highest (p := fun i => x.getLsbD i) set highest _ hn
  rw [findLast, found]

/-- The number of a bit is within XLEN bits. -/
theorem trunc_bitNumber (c : Config) {n : Nat} (hn : n < xlenBits c) :
    trunc c (BitVec.ofNat 64 (n + 1)) = BitVec.ofNat 64 (n + 1) := by
  refine trunc_of_lt c _ ?_
  have : n + 1 < 2 ^ xlenBits c := Nat.lt_of_le_of_lt hn Nat.lt_two_pow_self
  exact (BitVec.toNat_ofNat .. ▸ Nat.mod_le _ _).trans_lt this

/-- Settles O29: extensions by their width, searches by the bit they find. -/
theorem extendAndFindResults : Obligations.ExtendAndFindResults := by
  intro s d a
  have zeroFits : trunc s.cfg 0 = 0 := trunc_of_lt s.cfg 0 (Nat.two_pow_pos _)
  refine ⟨?extbs, ?extbz, ?exths, ?exthz, ?extws, ?extwz, ?ff1Zero, ?fl1Zero, ?ff1, ?fl1⟩
  case extbs => exact fun ready => regResult_plain (gate_ready ready _) (by rw [trunc_sext, sext_setWidth])
  case extbz => exact fun ready => regResult_plain (gate_ready ready _) (trunc_zext_setWidth _ _ (by decide))
  case exths => exact fun ready => regResult_plain (gate_ready ready _) (by rw [trunc_sext, sext_setWidth])
  case exthz => exact fun ready => regResult_plain (gate_ready ready _) (trunc_zext_setWidth _ _ (by decide))
  case extws => exact fun ready => regResult_plain (gate_ready ready _) (by rw [trunc_sext, sext_setWidth])
  case extwz => exact fun ready => regResult_plain (gate_ready ready _) (trunc_zext_setWidth _ _ (by decide))
  case ff1Zero =>
    exact fun ready zero => regResult_plain (gate_ready ready _) (by rw [zero, findFirst_zero]; exact zeroFits)
  case fl1Zero =>
    exact fun ready zero => regResult_plain (gate_ready ready _) (by rw [zero, findLast_zero]; exact zeroFits)
  case ff1 =>
    intro n ready set lowest
    have hn := reg_getLsbD_lt set
    exact regResult_plain (gate_ready ready _) (by rw [findFirst_eq_of_lowest hn set lowest, trunc_bitNumber _ hn])
  case fl1 =>
    intro n ready set highest
    have hn := reg_getLsbD_lt set
    exact regResult_plain (gate_ready ready _) (by rw [findLast_eq_of_highest hn set highest, trunc_bitNumber _ hn])

end Sys2Proof.Machine
end

section
/-! PROOF. Compares: SR[F] gets the relation's truth value, and nothing else changes. -/

namespace Sys2Proof.Machine

/-- The whole family (R460): an instruction that runs as `setFlag f` has `f` in SR[F] as its one effect. -/
theorem srResult_setFlag {i : Instr} {s : State} {f : Bool} (ready : Ready s i)
    (runs : exec i s = gate i s (setFlag f s)) : SrResult i s (putBit s.sr 9 f) :=
  srResult_intro (runs.trans (gate_ready ready _)) rfl

/-- The model sets the flag of l.sfne and l.sfnei to the negation of the equality's. -/
theorem not_cmpEq (c : Config) (x y : Word) : (!cmpEq c x y) = decide (toU c x ≠ toU c y) :=
  decide_not.symm

/-- Settles O30: each form runs as `setFlag` of its relation, the immediate forms with the operand sign-extended (R461). -/
theorem compareResults : Obligations.CompareResults := by
  intro s a b i
  refine ⟨?eq, ?eqi, ?ne, ?nei, ?gtu, ?gtui, ?geu, ?geui, ?ltu, ?ltui, ?leu, ?leui, ?gts, ?gtsi, ?ges, ?gesi, ?lts, ?ltsi,
    ?les, ?lesi⟩
  case ne | nei =>
    intro ready
    rw [← not_cmpEq]
    exact srResult_setFlag ready rfl
  case eq | eqi => exact fun ready => srResult_setFlag ready rfl
  case gtu | gtui | geu | geui | ltu | ltui | leu | leui => exact fun ready => srResult_setFlag ready rfl
  case gts | gtsi | ges | gesi | lts | ltsi | les | lesi => exact fun ready => srResult_setFlag ready rfl

end Sys2Proof.Machine
end

section
/-! PROOF. Loads and stores whose access succeeds: the register a load writes, the bytes a store writes. -/

namespace Sys2Proof.Machine

/-! ## Loads -/

section
variable {s s' : State} {j : Instr} {d a b : RegNo} {i : BitVec 16} {n : Nat} {ext : BitVec 64 → Word} {pas : List Nat}
  {v : Word}

/-- A load whose checks pass outside the OMPIC writes rD in the state they leave, records its access and goes on (R502). -/
theorem loadInto_ok (h : accessPas .load (s.addr a i) n s = .ok pas s') (ho : ompicAccess s.cfg pas = none) :
    ∃ acc, loadInto d a i n ext s =
      .next (advance { s' with gpr := (s'.setReg d (ext (BitVec.ofNat 64 (operandValue s' pas)))).gpr, acc := acc }) :=
  ⟨_, by rw [loadInto, memRead_ok h ho]; rfl⟩

/-- A register written after the checks of a data access reads as the value within XLEN. -/
theorem OnlyMmu.reg_setReg (h : OnlyMmu s s') (d : RegNo) (v : Word) : (s'.setReg d v).reg d = trunc s.cfg v := by
  rw [reg_setReg_self, h.cfg]

/-- The whole family (R502): an instruction that runs as `loadInto` has the extended operand in rD as its one effect. -/
theorem loadResult_loadInto (ready : Ready s j) (runs : exec j s = gate j s (loadInto d a i n ext s))
    (h : accessPas .load (s.addr a i) n s = .ok pas s') (ho : ompicAccess s.cfg pas = none)
    (hv : trunc s.cfg (ext (BitVec.ofNat 64 (operandValue s' pas))) = v) : LoadResult j s s' d v := by
  have only := accessPas_onlyMmu (by decide) h
  obtain ⟨acc, loaded⟩ := loadInto_ok (d := d) (ext := ext) h ho
  refine ⟨_, runs.trans ((gate_ready ready _).trans loaded), ?reg, ?sr, only.goesOn rfl rfl rfl, ?gpr,
    memFrame_refl (advance_mem _) _, only, by rw [advance_eq]⟩
  case reg =>
    rw [← hv, ← only.reg_setReg, advance_eq]
    rfl
  case sr => rw [advance_sr, only.sr]
  case gpr => exact gprFrame_setReg d _ (by rw [advance_gpr, only.setReg_gpr])

/-- The narrow operand that a sign-extending load takes from the value read (R504, R506, R508). -/
theorem trunc_sext_setWidth (c : Config) {w : Nat} (hw : w ≤ 64) (x : Nat) :
    trunc c (sext c ((BitVec.ofNat 64 x).setWidth w)) = trunc c ((BitVec.ofNat w x).signExtend 64) := by
  rw [trunc_sext, sext, BitVec.setWidth_ofNat_of_le hw]

/-- The single that l.lf takes from the value read (R510). -/
theorem boxSingle_ofNat (x : Nat) : boxSingle (BitVec.ofNat 64 x) = 0xFFFFFFFF#32 ++ BitVec.ofNat 32 x := by
  rw [boxSingle, BitVec.setWidth_ofNat_of_le (by decide)]

/-! ## Stores -/

@[simp] theorem storeAt_gpr (ea : Word) (n : Nat) (v : Word) (pas : List Nat) (s : State) :
    (storeAt ea n v pas s).gpr = s.gpr := rfl

@[simp] theorem storeAt_sr (ea : Word) (n : Nat) (v : Word) (pas : List Nat) (s : State) :
    (storeAt ea n v pas s).sr = s.sr := rfl

@[simp] theorem storeAt_mem (ea : Word) (n : Nat) (v : Word) (pas : List Nat) (s : State) :
    (storeAt ea n v pas s).mem = writeBytes s.mem pas (dataOrder s (splitBytes n v)) := rfl

@[simp] theorem storeAt_resv (ea : Word) (n : Nat) (v : Word) (pas : List Nat) (s : State) :
    (storeAt ea n v pas s).resv = keepResv s.resv pas := rfl

/-- A store whose checks pass outside the OMPIC stores in the state they leave and goes on (R502). -/
theorem storeFrom_ok (h : accessPas .store (s.addr a i) n s = .ok pas s') (ho : ompicAccess s.cfg pas = none) :
    storeFrom a b i n s = .next (advance (storeAt (s.addr a i) n (s.reg b) pas s')) := by
  rw [storeFrom, memWrite_ok h ho]
  rfl

/-- The whole family (R502): an instruction that runs as `storeFrom` writes the operand's bytes, at the cost of a
reservation that they touch, as its one effect. -/
theorem storeResult_storeFrom (wf : Memory.wf s.mem = true) (ready : Ready s j)
    (runs : exec j s = gate j s (storeFrom a b i n s)) (h : accessPas .store (s.addr a i) n s = .ok pas s')
    (ho : ompicAccess s.cfg pas = none) : StoreResult j s s' n (s.reg b) pas := by
  have only := accessPas_onlyMmu (by decide) h
  have wf' := accessPas_wf h wf
  refine ⟨_, runs.trans ((gate_ready ready _).trans (storeFrom_ok h ho)), ?sr, only.goesOn rfl rfl rfl, ?gpr, ?others,
    only, ?bytes, ?held, ?none, by rw [advance_eq]; rfl⟩
  case sr => rw [advance_sr, storeAt_sr, only.sr]
  case gpr => exact gprFrame_refl (by rw [advance_gpr, storeAt_gpr, only.gpr]) _
  case others =>
    intro p hp
    rw [advance_mem, storeAt_mem]
    exact readByte_writeBytes_of_notMem _ _ _ _ wf' hp
  case bytes =>
    intro distinct k p hk
    have bound : k < n := accessPas_length h ▸ (List.getElem?_eq_some_iff.mp hk).1
    rw [advance_mem, storeAt_mem, ← only.operandByte]
    exact readByte_writeBytes_getElem _ _ _ _ _ _ wf' distinct hk (dataOrder_getElem _ n _ k bound)
  case held =>
    intro r hr
    rw [advance_resv, storeAt_resv, hr, keepResv_some]
  case none =>
    intro hr
    rw [advance_resv, storeAt_resv, hr, keepResv_none]

end

/-- Settles O31: each form runs as `loadInto` with its size and extension (R503-R510). -/
theorem loadResults : Obligations.LoadResults := by
  intro s s' d a i pas ho
  refine ⟨?lbz, ?lbs, ?lhz, ?lhs, ?lwz, ?lws, ?ld, ?lf⟩
  case lbz | lhz | lwz | ld => exact fun ready h => loadResult_loadInto ready rfl h ho rfl
  case lbs | lhs | lws => exact fun ready h => loadResult_loadInto ready rfl h ho (trunc_sext_setWidth _ (by decide) _)
  case lf => exact fun ready h => loadResult_loadInto ready rfl h ho (congrArg _ (boxSingle_ofNat _))

/-- Settles O33: each form runs as `storeFrom` with its size (R512-R515). -/
theorem storeResults : Obligations.StoreResults := by
  intro s s' a b i pas wf ho
  refine ⟨?sb, ?sh, ?sw, ?sd⟩
  case sb | sh | sw | sd => exact fun ready h => storeResult_storeFrom wf ready rfl h ho

end Sys2Proof.Machine
end

section
/-! PROOF. Jumps and branches: where control goes, what they link, and instructions without an effect. -/

namespace Sys2Proof.Machine

/-! ## Jumps and branches -/

/-- A jump that is not refused changes the program counters and the pending target alone. -/
theorem jump_next_eq {taken : Bool} {target : Word} {u t : State} (h : jump taken target u = .next t) :
    t = { u with pc := t.pc, ppc := t.ppc, ds := t.ds } := by
  rcases jump_cases taken target u with ⟨-, hj⟩ | ⟨-, -, hj⟩ | ⟨-, -, hj⟩ <;> cases hj.symm.trans h <;> rfl

/-- The whole family (R530): an instruction that runs as `jump`, with at most registers of `rs` written before it, goes to
its target as its one effect. -/
theorem jumpResult_of_exec {i : Instr} {s u : State} {rs : List RegNo} {taken : Bool} {target : Word}
    (noSlot : s.ds = none) (run : exec i s = jump taken target u) (hu : u = { s with gpr := u.gpr })
    (frame : GprFrame s u rs) (within : trunc s.cfg target = target) : JumpResult i s rs taken target := by
  obtain ⟨g, rfl⟩ : ∃ g, u = { s with gpr := g } := ⟨_, hu⟩
  rcases jump_cases taken target { s with gpr := g } with ⟨slot, -⟩ | ⟨-, nd, jumps⟩ | ⟨-, slots, jumps⟩
  · exact absurd noSlot slot
  · exact ⟨_, run.trans jumps, rfl, rfl, frame, memFrame_refl rfl _, fun slots => absurd (nd.symm.trans slots) nofun,
      fun _ => ⟨by rw [within], noSlot⟩, rfl⟩
  · exact ⟨_, run.trans jumps, rfl, rfl, frame, memFrame_refl rfl _, fun _ => ⟨rfl, by rw [within]⟩,
      fun nd => absurd (slots.symm.trans nd) nofun, rfl⟩

/-- A jump that links has the link address in r9 (R534). -/
theorem reg_link_of_exec {i : Instr} {s t : State} {taken : Bool} {target : Word}
    (run : exec i s = jump taken target (s.setReg 9 s.linkAddr)) (next : exec i s = .next t) :
    t.reg 9 = s.linkAddr := by
  have linked : (s.setReg 9 s.linkAddr).reg 9 = s.linkAddr := (reg_setReg_self ..).trans (trunc_trunc ..)
  rw [jump_next_eq (run.symm.trans next)]
  exact linked

/-! ## The target of a pc-relative jump -/

theorem trunc_add (c : Config) (x y : Word) : trunc c (x + y) = trunc c (trunc c x + trunc c y) := by
  refine BitVec.eq_of_toNat_eq ?_
  simp only [trunc_eq_mod, BitVec.toNat_add, Nat.mod_mod_of_dvd _ (two_pow_xlenBits_dvd c), ← Nat.add_mod]

theorem ofI_toS (c : Config) (x : Word) : ofI c (toS c x) = trunc c x := by
  have low : ((x.setWidth 32).signExtend 64).setWidth 32 = x.setWidth 32 := by
    ext j hj
    rw [BitVec.getElem_setWidth, BitVec.getLsbD_signExtend]
    simp [hj, show j < 64 by omega]
  unfold ofI toS trunc
  cases c.xlen
  case x32 => exact congrArg (BitVec.setWidth 64) low
  case x64 => exact BitVec.ofInt_toInt

theorem ofI_add (c : Config) (y z : Int) : ofI c (y + z) = trunc c (ofI c y + ofI c z) := by
  rw [ofI, BitVec.ofInt_add, trunc_add]
  rfl

/-- The displacement `4 * N` of R531, as the model forms it from the bits of N. -/
theorem toInt_displacement (n : BitVec 26) : (n ++ 0#2).toInt = 4 * n.toInt := by
  rw [BitVec.toInt_append]
  simp

theorem State.relTarget_eq (s : State) (n : BitVec 26) : s.relTarget n = ofI s.cfg (toS s.cfg s.pc + 4 * n.toInt) := by
  rw [State.relTarget, trunc_add, BitVec.signExtend, toInt_displacement, ofI_add, ofI_toS, ofI]

/-- Settles O38: each form runs as `jump`, l.jal and l.jalr with r9 written before it. -/
theorem jumpResults : Obligations.JumpResults := by
  intro s n b noSlot
  have pcRelative : trunc s.cfg (s.relTarget n) = s.relTarget n := trunc_trunc ..
  have unwritten : GprFrame s s [] := gprFrame_refl rfl _
  have linkOnly : GprFrame s (s.setReg 9 s.linkAddr) [9] := gprFrame_setReg 9 s.linkAddr rfl
  refine ⟨?j, ?bf, ?bnf, ?jr, ?jal, ?jalr, ?jalLink, ?jalrLink, s.relTarget_eq n⟩
  case j | bf | bnf => exact fun ready => jumpResult_of_exec noSlot (gate_ready ready _) rfl unwritten pcRelative
  case jr => exact fun ready => jumpResult_of_exec noSlot (gate_ready ready _) rfl unwritten (trunc_reg s b)
  case jal => exact fun ready => jumpResult_of_exec noSlot (gate_ready ready _) rfl linkOnly pcRelative
  case jalr => exact fun ready => jumpResult_of_exec noSlot (gate_ready ready _) rfl linkOnly (trunc_reg s b)
  case jalLink => exact fun t ready next => reg_link_of_exec (i := .lJal n) (gate_ready ready _) next
  case jalrLink => exact fun t ready next => reg_link_of_exec (i := .lJalr b) (gate_ready ready _) next

/-! ## A jump in a delay slot -/

/-- The model's choice where R532 leaves no next state (D47). -/
theorem jump_refused {taken : Bool} {target : Word} {u : State} (slot : u.ds ≠ none) :
    jump taken target u = .refused .jumpInDelaySlot := by
  rcases jump_cases taken target u with ⟨-, refused⟩ | ⟨noSlot, -⟩ | ⟨noSlot, -⟩
  · exact refused
  · exact absurd noSlot slot
  · exact absurd noSlot slot

/-- Settles O39: each form runs as `jump` while a target is pending, which writing the link register does not change. -/
theorem jumpInSlotRefused : Obligations.JumpInSlotRefused := by
  intro s n b slot
  have linking : (s.setReg 9 s.linkAddr).ds ≠ none := slot
  simp only [List.forall_mem_cons]
  refine ⟨?j, ?jal, ?bf, ?bnf, ?jr, ?jalr, nofun⟩
  case j | bf | bnf | jr => exact fun ready => (gate_ready ready _).trans (jump_refused slot)
  case jal | jalr => exact fun ready => (gate_ready ready _).trans (jump_refused linking)

/-! ## Instructions without an effect -/

/-- Settles O40: each runs as `advance` in the state that it finds; memory is strongly ordered already (D32). -/
theorem noEffectInstructions : Obligations.NoEffectInstructions := by
  intro s k
  simp only [List.forall_mem_cons]
  refine ⟨?nop, ?msync, ?psync, ?csync, nofun⟩
  case nop | msync | psync | csync => exact fun ready => srResult_intro (gate_ready ready _) rfl

end Sys2Proof.Machine
end

section
/-! PROOF. l.mfspr and l.mtspr: which register they name, and what an absent or forbidden one does. -/

namespace Sys2Proof.Machine

section
variable {s : State} {a b d : RegNo} {k x : BitVec 16} {r : Spr}

/-! ## Reading a special-purpose register -/

/-- An absent register, and one that the mode may not read, reads as zero (R31, R32). -/
theorem readSpr_refused (named : sprAt x = some r)
    (refused : (sprPresent s.cfg r && sprReadable s.sm s.sumra r) = false) : readSpr s x = 0 := by
  simp [readSpr, named, refused]

/-- So does an address that names no register (R31). -/
theorem readSpr_unnamed (unnamed : sprAt x = none) : readSpr s x = 0 := by
  simp [readSpr, unnamed]

theorem trunc_zero (c : Config) : trunc c 0 = 0 := trunc_of_lt c 0 (Nat.two_pow_pos _)

/-- What a read gives lies within XLEN. -/
theorem trunc_readSpr (s : State) (x : BitVec 16) : trunc s.cfg (readSpr s x) = readSpr s x := by
  unfold readSpr
  split
  · split
    · exact trunc_trunc ..
    · exact trunc_zero _
  · exact trunc_zero _

/-- l.mfspr puts what the register `rA OR K` reads as in rD (R555). -/
theorem regResult_lMfspr (ready : Ready s (.lMfspr d a k)) (address : x = (s.reg a).extractLsb' 0 16 ||| k) :
    RegResult (.lMfspr d a k) s d (readSpr s x) s.sr := by
  rw [address, ← sprAddr_eq]
  exact regResult_plain (gate_ready ready _) (trunc_readSpr ..)

/-- A present register that the mode may read is in rD as it stands (R555). -/
theorem regResult_lMfspr_present (ready : Ready s (.lMfspr d a k)) (address : x = (s.reg a).extractLsb' 0 16 ||| k)
    (named : sprAt x = some r) (present : sprPresent s.cfg r = true) (readable : sprReadable s.sm s.sumra r = true) :
    RegResult (.lMfspr d a k) s d (trunc s.cfg (readReg s r)) s.sr :=
  readSpr_present named present readable ▸ regResult_lMfspr ready address

/-! ## Writing a special-purpose register -/

/-- A write of an absent register, or of one that the mode may not write, has no effect (R31, R32). -/
theorem writeSpr_refused (v : Word) (named : sprAt x = some r)
    (refused : (sprPresent s.cfg r && sprWritable s.sm r) = false) : writeSpr s x v = s := by
  simp [writeSpr, named, refused]

/-- Nor does a write at an address that names no register (R31). -/
theorem writeSpr_unnamed (v : Word) (unnamed : sprAt x = none) : writeSpr s x v = s := by
  simp [writeSpr, unnamed]

theorem exec_lMtspr_at (ready : Ready s (.lMtspr a b k)) (address : x = (s.reg a).extractLsb' 0 16 ||| k) :
    exec (.lMtspr a b k) s = .next (writeSpr (advance s) x (s.reg b)) := by
  rw [exec_lMtspr ready, sprAddr_eq, address]

/-- Where the write has no effect, the instruction goes on and that is all (R556). -/
theorem srResult_lMtspr (ready : Ready s (.lMtspr a b k)) (address : x = (s.reg a).extractLsb' 0 16 ||| k)
    (unwritten : writeSpr (advance s) x (s.reg b) = advance s) : SrResult (.lMtspr a b k) s s.sr :=
  srResult_intro (by rw [exec_lMtspr_at ready address, unwritten]) rfl

end

/-- Settles O41: rD gets what `readSpr` gives, which is zero but for a present register that the mode may read. -/
theorem moveFromSpr : Obligations.MoveFromSpr := by
  intro s d a k ready x address
  have result := regResult_lMfspr ready address
  refine ⟨fun r named present readable => ?held, fun r named refused => ?refused, fun unnamed => ?unnamed⟩
  case held => exact regResult_lMfspr_present ready address named present readable
  case refused => rwa [readSpr_refused named refused] at result
  case unnamed => rwa [readSpr_unnamed unnamed] at result

/-- Settles O42: the write follows the advance, which changes neither the configuration nor the mode that decide on it. -/
theorem moveToSpr : Obligations.MoveToSpr := by
  intro s a b k ready x address
  refine ⟨fun r named present writable => ?written, fun r named refused => ?refused, fun unnamed => ?unnamed⟩
  case written =>
    have write := writeSpr_present (s := advance s) (s.reg b) named (by rwa [advance_cfg]) (by rwa [sm_advance])
    exact ⟨advance s, by rw [exec_lMtspr_at ready address, write], goesOn_advance rfl rfl rfl, by rw [advance_eq]⟩
  case refused =>
    exact srResult_lMtspr ready address (writeSpr_refused _ named (by rwa [advance_cfg, sm_advance]))
  case unnamed => exact srResult_lMtspr ready address (writeSpr_unnamed _ unnamed)

end Sys2Proof.Machine
end

section
/-! PROOF. The accumulator: what l.macrc reads and clears, and the two ways an accumulate step ends. -/

namespace Sys2Proof.Machine

/-! ## Reading and clearing -/

theorem macRead_eq (s : State) :
    macRead s = if s.cfg.xlen = .x64 then s.machi ++ s.maclo else s.maclo.setWidth 64 := by
  unfold macRead
  cases s.cfg.xlen <;> rfl

/-- On XLEN = 32 half of the accumulator is read, so what is read fits in rD. -/
theorem trunc_macRead (s : State) : trunc s.cfg (macRead s) = macRead s := by
  unfold macRead
  split
  · exact trunc_zext _ _ (Nat.le_refl _)
  · next x64 => exact trunc_x64 _ _ x64

/-- The register that l.macrc writes keeps its value while the accumulator is cleared and the core goes on (R575). -/
theorem reg_macrc (s : State) (d : RegNo) :
    (advance ((s.setReg d (macRead s)).setMac 0)).reg d = macRead s := by
  have kept : (advance ((s.setReg d (macRead s)).setMac 0)).reg d = (s.setReg d (macRead s)).reg d := by
    rw [advance_eq]; rfl
  rw [kept, reg_setReg_self, trunc_macRead]

/-! ## The words of major opcode 0x06 -/

section
variable {w : Word32}

theorem decodeWord_of_major_6 (major : w.extractLsb' 26 6 = 6#6) : decodeWord w = decodeMovhi w := by
  simp [decodeWord, major]

theorem major_of_div {n : Nat} (major : w.toNat / 2 ^ 26 = n) : w.extractLsb' 26 6 = BitVec.ofNat 6 n :=
  BitVec.eq_of_toNat_eq (by rw [BitVec.extractLsb'_toNat, Nat.shiftRight_eq_div_pow, major, BitVec.toNat_ofNat])

theorem extractLsb'_one_eq_ofBool {n : Nat} (v : BitVec n) (j : Nat) : v.extractLsb' j 1 = BitVec.ofBool (v.getLsbD j) := by
  ext i hi
  obtain rfl : i = 0 := by omega
  simp

/-- The fixed bits of l.macrc: the major opcode, bit 16 and the low half; bits 20 to 17 are not looked at (R575). -/
theorem macrc_fields (fixed : w &&& 0xFC01FFFF = 0x18010000) :
    w.extractLsb' 26 6 = 6#6 ∧ w.extractLsb' 16 1 = 1#1 ∧ w.extractLsb' 0 16 = 0#16 := by
  have field (start len : Nat) (ones : (0xFC01FFFF : Word32).extractLsb' start len = BitVec.allOnes len) :
      w.extractLsb' start len = (0x18010000 : Word32).extractLsb' start len := by
    rw [← fixed, BitVec.extractLsb'_and, ones, BitVec.and_allOnes]
  exact ⟨field 26 6 (by decide), field 16 1 (by decide), field 0 16 (by decide)⟩

end

/-- Settles O45: the accumulator is read before it is cleared; l.mfspr reads its halves in either mode; bit 16 and the
low half tell the words of major opcode 0x06 apart. -/
theorem macReadAndClear : Obligations.MacReadAndClear := by
  intro s d
  refine ⟨?clears, ?reads, ?word, ?beside, ?absent, ?present⟩
  case clears =>
    intro ready
    refine ⟨_, gate_ready ready _, (reg_macrc s d).trans (macRead_eq s), ?_⟩
    rw [advance_eq]
    exact ⟨rfl, rfl, rfl, ⟨rfl, rfl, rfl⟩, gprFrame_setReg d (macRead s) rfl, memFrame_refl rfl _, rfl⟩
  case reads =>
    intro a k x ready mac address
    have whole (h : Word32) : trunc s.cfg (zext h) = h.setWidth 64 := trunc_zext _ _ (Nat.le_refl _)
    refine ⟨fun low => ?_, fun high => ?_⟩
    · rw [← whole]
      exact regResult_lMfspr_present (r := .maclo) ready address (by rw [low]; rfl) mac rfl
    · rw [← whole]
      exact regResult_lMfspr_present (r := .machi) ready address (by rw [high]; rfl) mac rfl
  case word =>
    intro w fixed
    obtain ⟨major, bit16, low⟩ := macrc_fields fixed
    simp [decodeWord_of_major_6 major, decodeMovhi, bit16, low, fieldD]
  case beside =>
    intro w major
    rw [decodeWord_of_major_6 (major_of_div major), decodeMovhi, extractLsb'_one_eq_ofBool]
    refine ⟨fun clear => ?_, fun set nonzero => ?_⟩
    · rw [clear]
      rfl
    · have low : w.extractLsb' 0 16 ≠ 0 := fun zero => nonzero (by simpa using congrArg BitVec.toNat zero)
      exact ⟨_, by rw [set, if_neg (by decide), if_neg low]⟩
  case absent => exact fun left => by simp [implemented, class2Of, left]
  case present => exact fun mac kept => by simp [implemented, subsetPresent, class2Of, mac, kept]

/-! ## Products and flags of an accumulate step -/

/-- On XLEN = 32 the product of two operands fits in 64 bits. -/
theorem signedProduct_eq (c : Config) (x y : Word) : signedProduct c x y = macProduct c x y := by
  unfold signedProduct macProduct
  split
  · rfl
  · next x32 =>
    have narrow (z : Word) : toS c z = (z.setWidth 32).toInt := by
      cases h : c.xlen
      case x32 => simp [toS, h]
      case x64 => exact absurd h x32
    have low := BitVec.le_toInt_mul_toInt (x := x.setWidth 32) (y := y.setWidth 32)
    have high := BitVec.toInt_mul_toInt_le (x := x.setWidth 32) (y := y.setWidth 32)
    rw [narrow, narrow, BitVec.toInt_ofInt_eq_self (by decide) (by omega) (by omega)]

theorem unsignedProduct_eq (c : Config) (x y : Word) : unsignedProduct c x y = macProductU c x y :=
  BitVec.toNat_ofNat ..

theorem macOverflow_eq (z : Int) : macOverflow z = decide (z < -2 ^ 63 ∨ 2 ^ 63 ≤ z) := (Bool.decide_or _ _).symm

/-! ## A state with the accumulator written -/

/-- The state `u` is `s` with the accumulator and flags of SR written and free values drawn up to `n`; SR[OVE] does not
depend on those flags. -/
structure Accumulated (s u : State) (v : BitVec 64) (w : Word32) (n : Nat) : Prop where
  /-- Nothing else is written. -/
  state : u = { s with maclo := v.extractLsb' 0 32, machi := v.extractLsb' 32 32, sr := w, free := n }
  /-- SR[OVE] is as it was. -/
  ove : u.ove = s.ove

namespace Accumulated

theorem setMac (s : State) (v : BitVec 64) : Accumulated s (s.setMac v) v s.sr s.free := ⟨rfl, rfl⟩

variable {i : Instr} {s u : State} {v : BitVec 64} {w causes : Word32} {ov : Bool} {n : Nat}

theorem drawn (h : Accumulated s u v w n) : Accumulated s u.drawn v w (n + 1) :=
  ⟨by rw [State.drawn, h.state], h.ove⟩

theorem setCy (h : Accumulated s u v w n) (b : Bool) : Accumulated s (u.setCy b) v (putBit w 10 b) n :=
  ⟨by rw [State.setCy, h.state], (ove_setCy u b).trans h.ove⟩

theorem setOv (h : Accumulated s u v w n) (b : Bool) : Accumulated s (u.setOv b) v (putBit w 11 b) n :=
  ⟨by rw [State.setOv, h.state], (ove_setOv u b).trans h.ove⟩

theorem mac_eq (h : Accumulated s u v w n) : u.machi ++ u.maclo = v := by
  rw [h.state]
  exact mac_setMac s v

theorem rangeDue_eq (h : Accumulated s u v w n) (causes : Word32) (ov : Bool) :
    rangeDue u causes ov = rangeDue s causes ov :=
  rangeDue_congr causes ov h.ove (by rw [h.state]) (by rw [h.state])

/-- Where no range exception is due, the core goes on with the accumulator written (R401). -/
theorem finishes (h : Accumulated s u v w n) (due : rangeDue s causes ov = false) :
    finishArith causes ov u = .next (advance u) :=
  finishArith_done ((h.rangeDue_eq causes ov).trans due)

/-- Where one is due, it follows the accumulator and the record of its causes, with the instruction's own address. -/
theorem traps (h : Accumulated s u v w n) (due : rangeDue s causes ov = true) :
    finishArith causes ov u = .next (enter .range s.pc none (executed (u.recordCauses causes))) := by
  rw [finishArith_trap ((h.rangeDue_eq causes ov).trans due), h.state]

/-- The state that the range exception is taken in. -/
theorem trapped_eq (h : Accumulated s u v w n) (causes : Word32) :
    executed (u.recordCauses causes) = { u with
      ppc := s.pc, aesr := if s.cfg.hasAecr then s.aesr ||| (s.aecr &&& causes) else s.aesr } := by
  rw [recordCauses_eq, h.state]; rfl

/-- An instruction that has written the accumulator and SR and may have drawn free values goes on. -/
theorem completes (h : Accumulated s u v w n) (run : exec i s = finishArith causes ov u)
    (due : rangeDue s causes ov = false) :
    ∃ t, exec i s = .next t ∧ t.sr = w ∧ GoesOn s t
      ∧ t = { s with maclo := t.maclo, machi := t.machi, sr := t.sr, pc := t.pc, ppc := t.ppc, ds := t.ds,
                     free := t.free } := by
  refine ⟨_, run.trans (h.finishes due), ?_⟩
  rw [advance_eq, h.state]
  exact ⟨rfl, ⟨rfl, rfl, rfl⟩, rfl⟩

/-- It takes the range exception where that is due. -/
theorem excepts (h : Accumulated s u v w n) (run : exec i s = finishArith causes ov u)
    (due : rangeDue s causes ov = true) :
    ∃ t, exec i s = .next (enter .range s.pc none t) ∧ t.sr = w ∧ t.ppc = s.pc
      ∧ t.aesr = (if s.cfg.hasAecr then s.aesr ||| (s.aecr &&& causes) else s.aesr)
      ∧ t = { s with maclo := t.maclo, machi := t.machi, sr := t.sr, ppc := t.ppc, aesr := t.aesr, free := t.free } := by
  refine ⟨_, run.trans (h.traps due), ?_⟩
  rw [h.trapped_eq, h.state]
  exact ⟨rfl, rfl, rfl, rfl⟩

/-- Both endings of an instruction that draws no free value. -/
theorem macOutcome (h : Accumulated s u v w s.free) (run : exec i s = finishArith causes ov u) :
    MacOutcome i s v w causes ov := by
  refine ⟨fun due => ⟨_, run.trans (h.finishes due), ?_⟩, fun due => ⟨_, run.trans (h.traps due), ?_⟩⟩
  · rw [advance_eq]
    refine ⟨h.mac_eq, ?_⟩
    rw [h.state]
    exact ⟨rfl, ⟨rfl, rfl, rfl⟩, gprFrame_refl rfl _, memFrame_refl rfl _, rfl⟩
  · rw [h.trapped_eq]
    refine ⟨h.mac_eq, ?_⟩
    rw [h.state]
    exact ⟨rfl, rfl, rfl, rfl⟩

end Accumulated

/-! ## Accumulate steps -/

section
variable {i : Instr} {s : State} {z : Int} {b b' : Bool} {v v' : BitVec 64}

/-- The signed family (R570, R571, R573): an instruction that runs as `macSigned z`. -/
theorem macOutcome_of_signed (run : exec i s = macSigned z s) (overflow : b = decide (z < -2 ^ 63 ∨ 2 ^ 63 ≤ z)) :
    MacOutcome i s (BitVec.ofInt 64 z) (putBit s.sr 11 b) (causeIf b causeOvMac) b := by
  rw [overflow, ← macOverflow_eq]
  exact ((Accumulated.setMac s _).setOv _).macOutcome run

/-- The unsigned family (R572, R574): an instruction that runs as `macUnsigned`. -/
theorem macOutcome_of_unsigned (run : exec i s = macUnsigned v b s) (value : v = v') (flag : b = b') :
    MacOutcome i s v' (putBit s.sr 10 b') (causeIf b' causeCyMac) false := by
  rw [← value, ← flag]
  exact ((Accumulated.setMac s v).setCy b).macOutcome run

end

theorem ofInt_toNat_sub (x : BitVec 64) (n : Nat) : BitVec.ofInt 64 ((x.toNat : Int) - n) = x - BitVec.ofNat 64 n := by
  rw [Int.sub_eq_add_neg, BitVec.ofInt_add, BitVec.ofInt_neg, BitVec.ofInt_natCast, BitVec.ofInt_natCast,
    BitVec.ofNat_toNat, BitVec.setWidth_eq, BitVec.sub_eq_add_neg]

/-- On XLEN = 64 the accumulator and the flag of l.muld are free values (log 11). -/
theorem exec_lMuld_free {s : State} {a b : RegNo} (ready : Ready s (.lMuld a b)) (x64 : s.cfg.xlen = .x64) :
    exec (.lMuld a b) s = finishArith (causeIf (s.drawn.freeWord.getLsbD 0) causeOvMul) (s.drawn.freeWord.getLsbD 0)
      ((s.setMac s.freeWord).drawn.drawn.setOv (s.drawn.freeWord.getLsbD 0)) :=
  (gate_ready ready _).trans (by rw [x64])

/-- So are those of l.muldu. -/
theorem exec_lMuldu_free {s : State} {a b : RegNo} (ready : Ready s (.lMuldu a b)) (x64 : s.cfg.xlen = .x64) :
    exec (.lMuldu a b) s = finishArith (causeIf (s.drawn.freeWord.getLsbD 0) causeCyMul) false
      ((s.setMac s.freeWord).drawn.drawn.setCy (s.drawn.freeWord.getLsbD 0)) :=
  (gate_ready ready _).trans (by rw [x64])

/-- Settles O44: each step accumulates exactly and is then narrowed; on XLEN = 64 l.muld and l.muldu draw their
accumulator and flag. -/
theorem macResults : Obligations.MacResults := by
  intro s a b i
  have drawn := (Accumulated.setMac s s.freeWord).drawn.drawn
  refine ⟨?mac, ?maci, ?msb, ?macu, ?msbu, ?muld, ?muldu⟩
  case mac | maci | msb =>
    rintro ready _ _ rfl overflow
    rw [← signedProduct_eq] at overflow ⊢
    exact macOutcome_of_signed (gate_ready ready _) overflow
  case macu =>
    rintro ready _ _ rfl rfl
    rw [← unsignedProduct_eq, ← Int.natCast_add]
    exact macOutcome_of_unsigned (gate_ready ready _) (BitVec.ofInt_natCast ..).symm (decide_eq_decide.mpr (by omega))
  case msbu =>
    rintro ready _ _ rfl rfl
    rw [← unsignedProduct_eq]
    exact macOutcome_of_unsigned (gate_ready ready _) (ofInt_toNat_sub ..).symm (decide_eq_decide.mpr (by omega))
  case muld =>
    intro ready x64
    have run := exec_lMuld_free ready x64
    exact ⟨_, fun due => (drawn.setOv _).completes run due, fun due => (drawn.setOv _).excepts run due⟩
  case muldu =>
    intro ready x64
    have run := exec_lMuldu_free ready x64
    exact ⟨_, fun due => (drawn.setCy _).completes run due, fun due => (drawn.setCy _).excepts run due⟩

end Sys2Proof.Machine
end

section
/-! PROOF. The custom instructions: illegal where they are not supplied, else the effect of the function. -/

namespace Sys2Proof.Machine

/-! ## The instructions and the functions they call for -/

/-- Every custom instruction with its entry in `CUSTOM_INSN`. -/
def customForms (d a b k : BitVec 5) (l : BitVec 6) : List (Instr × CustomOp) :=
  [(.lfCust1S a b, .lfCust1S), (.lfCust1D a b, .lfCust1D), (.lCust1, .lCust1), (.lCust2, .lCust2), (.lCust3, .lCust3),
    (.lCust4, .lCust4), (.lCust5 d a b l k, .lCust5), (.lCust6, .lCust6), (.lCust7, .lCust7), (.lCust8, .lCust8),
    (.lvCust1, .lvCust1), (.lvCust2, .lvCust2), (.lvCust3, .lvCust3), (.lvCust4, .lvCust4)]

/-- All of them run as `runCustom` (R580, R635, R665, R765). -/
theorem exec_customForms (d a b k : BitVec 5) (l : BitVec 6) (s : State) :
    ∀ p ∈ customForms d a b k l, exec p.1 s = gate p.1 s (runCustom p.1 s) := by
  simp only [customForms, List.forall_mem_cons]
  exact ⟨rfl, rfl, rfl, rfl, rfl, rfl, rfl, rfl, rfl, rfl, rfl, rfl, rfl, rfl, nofun⟩

/-- Besides the unit that an instruction belongs to, its subset wants a function of the implementation (R323). -/
theorem subsetPresent_customForms (c : Config) (d a b k : BitVec 5) (l : BitVec 6) :
    ∀ p ∈ customForms d a b k l, ∃ unit, subsetPresent c p.1 = (unit && c.customInsn.contains p.2) := by
  simp only [customForms, List.forall_mem_cons]
  exact ⟨⟨c.orfpx32, rfl⟩, ⟨hasDouble c, rfl⟩, ⟨true, rfl⟩, ⟨true, rfl⟩, ⟨true, rfl⟩, ⟨true, rfl⟩, ⟨true, rfl⟩,
    ⟨true, rfl⟩, ⟨true, rfl⟩, ⟨true, rfl⟩, ⟨hasVector c, rfl⟩, ⟨hasVector c, rfl⟩, ⟨hasVector c, rfl⟩,
    ⟨hasVector c, rfl⟩, nofun⟩

theorem not_implemented_customForms {c : Config} {d a b k : BitVec 5} {l : BitVec 6} {p : Instr × CustomOp}
    (hp : p ∈ customForms d a b k l) (absent : p.2 ∉ c.customInsn) : implemented c p.1 = false := by
  obtain ⟨unit, subset⟩ := subsetPresent_customForms c d a b k l p hp
  simp [implemented, subset, absent]

/-! ## What the function writes -/

/-- Bytes are written without regard to the register file and SR. -/
theorem foreignWrites_gpr_sr (l : List Host.Cell) (s : State) (g : Bank Word 9) (w : Word32) :
    l.foldl foreignWrite { s with gpr := g, sr := w } = { l.foldl foreignWrite s with gpr := g, sr := w } := by
  induction l generalizing s with
  | nil => rfl
  | cons q l ih => exact ih (foreignWrite s q)

/-- Without a reservation there is none after bytes are written. -/
theorem foreignWrites_resv_none (l : List Host.Cell) (s : State) (unreserved : s.resv = none) :
    (l.foldl foreignWrite s).resv = none := by
  induction l generalizing s with
  | nil => exact unreserved
  | cons q l ih => exact ih _ (by rw [foreignWrite, unreserved, keepResv_none])

/-- SR with the three flags that a custom instruction leaves. -/
def customSr (e : CustomEffect) (w : Word32) : Word32 := putBit (srFlags w e.cy e.ov) 9 e.flag

/-- The effect but for the special-purpose registers as one update: registers, memory and reservation each as the function's
list of writes leaves it. -/
theorem customWrites_eq (e : CustomEffect) (s : State) : customWrites e s = { s with
    gpr := (e.regs.foldl customReg s).gpr, sr := customSr e s.sr
    mem := (e.bytes.foldl foreignWrite s).mem, resv := (e.bytes.foldl foreignWrite s).resv
    pc := s.nextPc, ppc := s.pc, ds := none, free := s.free + 1 } := by
  have flags : (((e.regs.foldl customReg s).setCy e.cy).setOv e.ov).setF e.flag =
      { s with gpr := (e.regs.foldl customReg s).gpr, sr := customSr e s.sr } := by
    rw [customRegs_eq]; rfl
  rw [customWrites, flags, foreignWrites_gpr_sr, foreignWrites_eq, advance_eq]
  rfl

/-- The flags do not choose the context. -/
theorem ctx_customSr (e : CustomEffect) (s : State) : { s with sr := customSr e s.sr }.ctx = s.ctx :=
  (ctx_setF ((s.setCy e.cy).setOv e.ov) e.flag).trans ((ctx_setOv (s.setCy e.cy) e.ov).trans (ctx_setCy s e.cy))

theorem reg_customWrites (e : CustomEffect) (s : State) (r : RegNo) :
    (customWrites e s).reg r = (e.regs.foldl customReg s).reg r := by
  have ctx : (customWrites e s).ctx = s.ctx := by
    rw [customWrites_eq]
    exact ctx_customSr e s
  rw [State.reg, ctx, customWrites_eq, State.reg, customRegs_eq]
  rfl

/-- Settles O20: one that is not supplied is not implemented; one that is runs as `runCustom`, whose writes before those
of the special-purpose registers are the state `customWrites`. -/
theorem customInstructions : Obligations.CustomInstructions := by
  intro s d a b k l p hp
  have form : p ∈ customForms d a b k l := hp
  refine ⟨fun absent => unimplementedIllegal p.1 s (not_implemented_customForms form absent), ?_⟩
  rintro ready wf e rfl
  have run := (exec_customForms d a b k l s p form).trans (gate_ready ready _)
  refine ⟨customWrites (customFunction p.1 s) s, _, run, rfl, ?goesOn, ?frame, fun r present => ?reg, ?sr,
    fun x => ?bytes, fun r held => ?held, fun unreserved => ?none, ?state⟩
  case reg => exact (reg_customWrites _ s r).trans (customRegs_reg _ s r present)
  all_goals rw [customWrites_eq]
  case goesOn => exact ⟨rfl, rfl, rfl⟩
  case frame => exact customRegs_frame _ s
  case sr => rfl
  case bytes => exact foreignWrites_read _ s wf x
  case held => exact foreignWrites_resv _ s r held
  case none => exact foreignWrites_resv_none _ s unreserved

end Sys2Proof.Machine
end

section
/-! PROOF. What a floating-point instruction has written when it ends, and the two ways an ending goes. -/

namespace Sys2Proof.Machine

/-! ## Registers that an ending leaves -/

@[simp] theorem reg_advance (s : State) (r : RegNo) : (advance s).reg r = s.reg r := by simp [State.reg]
@[simp] theorem reg_executed (s : State) (r : RegNo) : (executed s).reg r = s.reg r := rfl
@[simp] theorem reg_raise (s : State) (flags : Word32) (r : RegNo) : (s.raise flags).reg r = s.reg r := rfl

/-- Two writes in one context, one after the other. -/
theorem GprFrame.trans {s t u : State} {rs rs' : List RegNo} (first : GprFrame s t rs) (second : GprFrame t u rs')
    (ctx : t.ctx = s.ctx) : GprFrame s u (rs ++ rs') := by
  intro c r outside
  rw [second c r fun ⟨hc, hr⟩ => outside ⟨hc.trans ctx, List.mem_append_right _ hr⟩,
    first c r fun ⟨hc, hr⟩ => outside ⟨hc, List.mem_append_left _ hr⟩]

/-! ## The two endings -/

theorem raise_zero (s : State) : s.raise 0 = s := by
  unfold State.raise
  rw [show s.fpcsr ||| 0 = s.fpcsr from BitVec.or_zero]

/-- An instruction that raises no flag goes on. -/
theorem finishFp_zero (s : State) : finishFp 0 s = .next (advance s) := by
  rw [finishFp_done (.inr rfl), raise_zero]

theorem fpTrap_intro {i : Instr} {s u : State} {rs : List RegNo} {flags w : Word32} {P : State → Prop}
    (run : exec i s = finishFp flags u) (enabled : s.fpee = true)
    (state : u = { s with gpr := u.gpr, sr := w, fpmaddlo := u.fpmaddlo, fpmaddhi := u.fpmaddhi, free := u.free })
    (frame : GprFrame s u rs) (value : P (executed (u.raise flags))) : FpTrap i s rs flags w P := by
  intro raised
  have pc : u.pc = s.pc := by rw [state]
  have fpcsr : u.fpcsr = s.fpcsr := by rw [state]
  have fpee : u.fpee = true := (congrArg (BitVec.getLsbD · 0) fpcsr).trans enabled
  refine ⟨executed (u.raise flags), by rw [run, finishFp_trap fpee raised, pc], value, ?fpcsr, ?sr, pc, frame, ?state⟩
  all_goals rw [state]
  all_goals rfl

theorem FpTrap.imp {i : Instr} {s : State} {rs : List RegNo} {flags w : Word32} {P Q : State → Prop}
    (h : FpTrap i s rs flags w P) (weaken : ∀ u, P u → Q u) : FpTrap i s rs flags w Q := by
  intro raised
  obtain ⟨u, run, value, rest⟩ := h raised
  exact ⟨u, run, weaken u value, rest⟩

/-! ## A state with a floating-point result written -/

/-- The state `u` is `s` with the registers of `rs` and SR written and free values drawn up to `n`; `P` says what the
registers hold, of `u` and so of every state with the same registers. -/
structure FpWrote (s u : State) (rs : List RegNo) (w : Word32) (n : Nat) (P : State → Prop) : Prop where
  /-- Nothing else is written. -/
  state : u = { s with gpr := u.gpr, sr := w, free := n }
  /-- No other register is written. -/
  frame : GprFrame s u rs
  /-- What the registers hold. -/
  value : ∀ t : State, (∀ r, t.reg r = u.reg r) → P t

namespace FpWrote

theorem setF (s : State) (b : Bool) : FpWrote s (s.setF b) [] (putBit s.sr 9 b) s.free fun _ => True :=
  ⟨rfl, gprFrame_refl rfl _, fun _ _ => trivial⟩

theorem setReg (s : State) (d : RegNo) {v v' : Word} (value : trunc s.cfg v = v') :
    FpWrote s (s.setReg d v) [d] s.sr s.free fun t => t.reg d = v' :=
  ⟨rfl, gprFrame_setReg d v rfl, fun _ same => (same d).trans ((reg_setReg_self s d v).trans value)⟩

variable {i : Instr} {s u : State} {rs : List RegNo} {flags w : Word32} {n : Nat} {P : State → Prop}

/-- What follows a draw is written to the state before it as well. -/
theorem of_drawn (h : FpWrote s.drawn u rs w n P) : FpWrote s u rs w n P := ⟨h.state, h.frame, h.value⟩

/-- Where no exception is due, the core goes on with the result written (R602). -/
theorem completes (h : FpWrote s u rs w n P) (run : exec i s = finishFp flags u) (off : NoFpTrap s flags) :
    FpResult i s rs flags w P := by
  have fpcsr : u.fpcsr = s.fpcsr := by rw [h.state]
  have off' : u.fpee = false ∨ flags = 0 := off.imp_left (congrArg (BitVec.getLsbD · 0) fpcsr).trans
  refine ⟨_, run.trans (finishFp_done off'), h.value _ (by simp), ?_⟩
  rw [advance_eq]
  refine ⟨?fpcsr, ?sr, ?goesOn, h.frame, ?mem, ?state⟩
  all_goals rw [h.state]
  case goesOn => exact ⟨rfl, rfl, rfl⟩
  case mem => exact memFrame_refl rfl _
  all_goals rfl

/-- Where it is due, it follows the result and the flags; FPMADDLO and FPMADDHI are not written (R602, R885). -/
theorem traps (h : FpWrote s u rs w n P) (run : exec i s = finishFp flags u) (enabled : s.fpee = true) :
    FpTrap i s rs flags w fun t => P t ∧ t.fpmaddlo = s.fpmaddlo ∧ t.fpmaddhi = s.fpmaddhi ∧ t.free = n := by
  refine fpTrap_intro run enabled ?state h.frame ⟨h.value _ fun _ => rfl, ?lo, ?hi, ?free⟩
  all_goals rw [h.state]
  all_goals rfl

end FpWrote

/-! ## Single-precision results -/

theorem zext_eq_append (v : Word32) : zext v = 0#32 ++ v := BitVec.setWidth_eq_append (by decide)

theorem setSingle_eq (s : State) (d : RegNo) (v : Word32) :
    s.setSingle d v = s.setReg d ((if s.cfg.xlen = .x64 then 0xFFFFFFFF#32 else 0#32) ++ v) := by
  unfold State.setSingle
  split
  · next x32 =>
    rw [x32, if_neg (by decide), ← zext_eq_append]
    rfl
  · next x64 => rw [x64, if_pos rfl]

theorem trunc_boxed (c : Config) (v : Word32) :
    trunc c ((if c.xlen = .x64 then 0xFFFFFFFF#32 else 0#32) ++ v) =
      (if c.xlen = .x64 then 0xFFFFFFFF#32 else 0#32) ++ v := by
  by_cases x64 : c.xlen = .x64
  · exact trunc_x64 c _ x64
  · rw [if_neg x64, ← zext_eq_append]
    exact trunc_zext c v (by decide)

theorem FpWrote.setSingle (s : State) (d : RegNo) (r : FpRes) :
    FpWrote s (s.setSingle d (BitVec.ofNat 32 r.bits)) [d] s.sr s.free fun t => SingleValue s t d r := by
  rw [setSingle_eq]
  exact FpWrote.setReg s d (trunc_boxed s.cfg _)

/-! ## Double-precision results -/

theorem pairReg_ne (d : RegNo) (d2 : BitVec 1) : pairReg d d2 ≠ d := by
  unfold pairReg
  bv_omega

section
variable {s : State} {d : RegNo} {d2 : BitVec 1}

theorem doubleRegs_x32 (x32 : s.cfg.xlen = .x32) : doubleRegs s.cfg d d2 = [d, pairReg d d2] := by
  rw [doubleRegs, x32]

theorem doubleRegs_x64 (x64 : s.cfg.xlen = .x64) : doubleRegs s.cfg d d2 = [d] := by
  rw [doubleRegs, x64]

theorem setDouble_x32 (x32 : s.cfg.xlen = .x32) (v : BitVec 64) :
    s.setDouble d d2 v =
      (s.setReg d (zext (v.extractLsb' 32 32))).setReg (pairReg d d2) (zext (v.extractLsb' 0 32)) := by
  rw [State.setDouble, x32]

theorem setDouble_x64 (x64 : s.cfg.xlen = .x64) (v : BitVec 64) : s.setDouble d d2 v = s.setReg d v := by
  rw [State.setDouble, x64]

end

theorem FpWrote.setDouble (s : State) (d : RegNo) (d2 : BitVec 1) (v : BitVec 64) :
    FpWrote s (s.setDouble d d2 v) (doubleRegs s.cfg d d2) s.sr s.free fun t => DoubleValue s t d d2 v := by
  cases xlen : s.cfg.xlen with
  | x32 =>
    rw [setDouble_x32 xlen, doubleRegs_x32 xlen]
    refine ⟨rfl, (gprFrame_setReg d _ rfl).trans (gprFrame_setReg (pairReg d d2) _ rfl) rfl,
      fun t same => ⟨fun x64 => (nomatch xlen.symm.trans x64), fun _ => ?_⟩⟩
    rw [same, same, reg_setReg_self, reg_setReg_ne _ _ _ _ (pairReg_ne d d2).symm, reg_setReg_self]
    exact ⟨trunc_zext _ _ (by decide), trunc_zext _ _ (by decide)⟩
  | x64 =>
    rw [setDouble_x64 xlen, doubleRegs_x64 xlen]
    obtain ⟨state, frame, value⟩ := FpWrote.setReg s d (trunc_x64 s.cfg v xlen)
    exact ⟨state, frame, fun t same => ⟨fun _ => value t same, fun x32 => (nomatch xlen.symm.trans x32)⟩⟩

end Sys2Proof.Machine
end

section
/-! PROOF. Floating-point arithmetic, conversions and compares: what each form writes, and the exception after it. -/

namespace Sys2Proof.Machine

section
variable {i : Instr} {s : State} {d a b : RegNo} {d2 a2 b2 : BitVec 1} {r : FpRes} {v : BitVec 64} {z : Int}
  {flags : Word32} {truth : Bool}

/-! ## Results in registers -/

/-- The single-precision family: an instruction that runs as `resultS` (R604). -/
theorem singleResult_of_exec (run : exec i s = resultS d r s) (off : NoFpTrap s r.flags) : SingleResult i s d r :=
  (FpWrote.setSingle s d r).completes run off

theorem singleTrap_of_exec (run : exec i s = resultS d r s) (enabled : s.fpee = true) :
    FpTrap i s [d] r.flags s.sr fun u => SingleValue s u d r ∧ NoFpmadd s u :=
  (FpWrote.setSingle s d r).traps run enabled

/-- The double-precision family: an instruction that ends with a double written (R603). -/
theorem doubleResult_of_exec (run : exec i s = finishFp flags (s.setDouble d d2 v)) (off : NoFpTrap s flags) :
    DoubleResult i s d d2 v flags :=
  (FpWrote.setDouble s d d2 v).completes run off

theorem doubleTrap_of_exec (run : exec i s = finishFp flags (s.setDouble d d2 v)) (enabled : s.fpee = true) :
    FpTrap i s (doubleRegs s.cfg d d2) flags s.sr fun u => DoubleValue s u d d2 v ∧ NoFpmadd s u :=
  (FpWrote.setDouble s d d2 v).traps run enabled

/-! ## Conversions to an integer -/

theorem exec_lfFtoiS_some (ready : Ready s (.lfFtoiS d a)) (converts : fpToInt 32 (s.fpS a) = some (z, flags)) :
    exec (.lfFtoiS d a) s = finishFp flags (s.setReg d ((BitVec.ofInt 32 z).signExtend 64)) :=
  (gate_ready ready _).trans (by rw [converts])

/-- An operand without an integer gives a free value (log 12). -/
theorem exec_lfFtoiS_none (ready : Ready s (.lfFtoiS d a)) (invalid : fpToInt 32 (s.fpS a) = none) :
    exec (.lfFtoiS d a) s = finishFp flagIvf (s.drawn.setReg d ((s.freeWord.setWidth 32).signExtend 64)) :=
  (gate_ready ready _).trans (by rw [invalid])

theorem exec_lfFtoiD_some (ready : Ready s (.lfFtoiD d a d2 a2)) (converts : fpToInt 64 (s.fpD a a2) = some (z, flags)) :
    exec (.lfFtoiD d a d2 a2) s = finishFp flags (s.setDouble d d2 (BitVec.ofInt 64 z)) :=
  (gate_ready ready _).trans (by rw [converts])

theorem exec_lfFtoiD_none (ready : Ready s (.lfFtoiD d a d2 a2)) (invalid : fpToInt 64 (s.fpD a a2) = none) :
    exec (.lfFtoiD d a d2 a2) s = finishFp flagIvf (s.drawn.setDouble d d2 s.freeWord) :=
  (gate_ready ready _).trans (by rw [invalid])

/-! ## Fused results in the accumulator -/

theorem exec_lfMaddS (ready : Ready s (.lfMaddS a b)) :
    exec (.lfMaddS a b) s =
      finishFp (maddS a b s).flags { s with fpmaddlo := BitVec.ofNat 32 (maddS a b s).bits, fpmaddhi := s.fpmaddhi } :=
  gate_ready ready _

theorem exec_lfMaddD (ready : Ready s (.lfMaddD a b a2 b2)) :
    exec (.lfMaddD a b a2 b2) s =
      finishFp (maddD a b a2 b2 s).flags (s.setFpmadd (BitVec.ofNat 64 (maddD a b a2 b2 s).bits)) :=
  gate_ready ready _

theorem fpmadd_setFpmadd (s : State) (v : BitVec 64) : (s.setFpmadd v).fpmaddhi ++ (s.setFpmadd v).fpmaddlo = v :=
  mac_setMac s v

/-- Where no exception is due, the core goes on with FPMADDHI and FPMADDLO written. -/
theorem accumulated_completes {lo hi : Word32} (run : exec i s = finishFp flags { s with fpmaddlo := lo, fpmaddhi := hi })
    (off : NoFpTrap s flags) :
    ∃ t, exec i s = .next t ∧ t.fpmaddlo = lo ∧ t.fpmaddhi = hi ∧ t.fpcsr = s.fpcsr ||| flags ∧ t.sr = s.sr ∧ GoesOn s t
      ∧ GprFrame s t [] ∧ MemFrame s t []
      ∧ t = { s with fpmaddlo := t.fpmaddlo, fpmaddhi := t.fpmaddhi, fpcsr := t.fpcsr, pc := t.pc, ppc := t.ppc,
                     ds := t.ds } := by
  refine ⟨_, run.trans (finishFp_done off), ?_⟩
  rw [advance_eq]
  exact ⟨rfl, rfl, rfl, rfl, ⟨rfl, rfl, rfl⟩, gprFrame_refl rfl _, memFrame_refl rfl _, rfl⟩

/-- Where it is due, it follows them and the flags. -/
theorem accumulated_traps {lo hi : Word32} (run : exec i s = finishFp flags { s with fpmaddlo := lo, fpmaddhi := hi })
    (enabled : s.fpee = true) :
    FpTrap i s [] flags s.sr fun u => u.fpmaddlo = lo ∧ u.fpmaddhi = hi ∧ u.free = s.free :=
  fpTrap_intro run enabled rfl (gprFrame_refl rfl _) ⟨rfl, rfl, rfl⟩

/-! ## Compares -/

/-- The compares: an instruction that runs as `resultCmp` (R606). -/
theorem compareResult_of_exec (run : exec i s = resultCmp truth flags s) (off : NoFpTrap s flags) :
    FpResult i s [] flags (putBit s.sr 9 truth) fun _ => True :=
  (FpWrote.setF s truth).completes run off

theorem compareTraps_of_exec {l : List (Instr × Bool)} (runs : ∀ c ∈ l, exec c.1 s = gate c.1 s (resultCmp c.2 flags s))
    (enabled : s.fpee = true) :
    ∀ c ∈ l, Ready s c.1 → FpTrap c.1 s [] flags (putBit s.sr 9 c.2) fun u => NoFpmadd s u := by
  intro c hc ready
  have trap := (FpWrote.setF s c.2).traps ((runs c hc).trans (gate_ready ready _)) enabled
  exact trap.imp fun _ ⟨_, kept⟩ => kept

end

/-! ## The statements -/

/-- Settles O46: the arithmetic forms, lf.itof.s and lf.dtos.d run as `resultS`; lf.ftoi.s writes an integer or a free
value, lf.madd.s FPMADDLO. -/
theorem singleResults : Obligations.SingleResults := by
  intro s d a b a2
  refine ⟨?add, ?sub, ?mul, ?div, ?itof, ?dtos, ?ftoi, ?invalid, ?madd⟩
  case add | sub | mul | div | itof | dtos =>
    rintro ready _ rfl off
    exact singleResult_of_exec (gate_ready ready _) off
  case ftoi =>
    intro ready z flags converts off
    exact (FpWrote.setReg s d rfl).completes (exec_lfFtoiS_some ready converts) off
  case invalid =>
    intro ready invalid disabled
    obtain ⟨t, run, -, rest⟩ :=
      (FpWrote.setReg s.drawn d rfl).of_drawn.completes (exec_lfFtoiS_none ready invalid) (.inl disabled)
    exact ⟨t, run, trivial, rest⟩
  case madd =>
    rintro ready _ rfl off
    obtain ⟨t, run, lo, hi, fpcsr, sr, goesOn, gpr, mem, state⟩ :=
      accumulated_completes (exec_lfMaddS ready) off
    rw [hi] at state
    exact ⟨t, run, lo, fpcsr, sr, goesOn, gpr, mem, state⟩

/-- Settles O47: the arithmetic forms and lf.itof.d run as `resultD`, lf.stod.d likewise without a flag; lf.ftoi.d writes
an integer or a free value, lf.madd.d the accumulator. -/
theorem doubleResults : Obligations.DoubleResults := by
  intro s d a b d2 a2 b2
  refine ⟨?add, ?sub, ?mul, ?div, ?itof, ?stod, ?ftoi, ?invalid, ?madd⟩
  case add | sub | mul | div | itof =>
    rintro ready _ rfl off
    exact doubleResult_of_exec (gate_ready ready _) off
  case stod =>
    exact fun ready => doubleResult_of_exec ((gate_ready ready _).trans (finishFp_zero _).symm) (.inr rfl)
  case ftoi =>
    intro ready z flags converts off
    exact doubleResult_of_exec (exec_lfFtoiD_some ready converts) off
  case invalid =>
    intro ready invalid disabled
    obtain ⟨t, run, -, rest⟩ :=
      (FpWrote.setDouble s.drawn d d2 _).of_drawn.completes (exec_lfFtoiD_none ready invalid) (.inl disabled)
    exact ⟨t, run, trivial, rest⟩
  case madd =>
    rintro ready _ rfl off
    obtain ⟨t, next, lo, hi, rest⟩ := accumulated_completes (exec_lfMaddD ready) off
    exact ⟨t, next, by rw [lo, hi]; exact fpmadd_setFpmadd s _, rest⟩

/-- Settles O48: each form runs as `resultCmp` of its relation and flags. -/
theorem singleCompares : Obligations.SingleCompares := by
  intro s a b
  refine ⟨?eq, ?ne, ?gt, ?ge, ?lt, ?le, ?ueq, ?une, ?ugt, ?uge, ?ult, ?ule, ?un⟩
  case eq | ne | gt | ge | lt | le | ueq | une | ugt | uge | ult | ule | un =>
    rintro ready _ rfl off
    exact compareResult_of_exec (gate_ready ready _) off

/-- Settles O49: each double-precision form runs as `resultCmp` likewise. -/
theorem doubleCompares : Obligations.DoubleCompares := by
  intro s a b a2 b2
  refine ⟨?eq, ?ne, ?gt, ?ge, ?lt, ?le, ?ueq, ?une, ?ugt, ?uge, ?ult, ?ule, ?un⟩
  case eq | ne | gt | ge | lt | le | ueq | une | ugt | uge | ult | ule | un =>
    rintro ready _ rfl off
    exact compareResult_of_exec (gate_ready ready _) off

/-- Settles O50: in each family the state that the exception is taken in has the result, the flags and the accumulator. -/
theorem floatException : Obligations.FloatException := by
  intro s d a b d2 a2 b2 enabled
  refine ⟨?addS, ?subS, ?mulS, ?divS, ?itofS, ?dtos, ?ftoiS, ?invalidS, ?maddS, ?addD, ?subD, ?mulD, ?divD, ?itofD, ?ftoiD,
    ?invalidD, ?maddD, ?quietS, ?orderedS, ?unorderedS, ?quietD, ?orderedD, ?unorderedD⟩
  case addS | subS | mulS | divS | itofS | dtos =>
    rintro ready _ rfl
    exact singleTrap_of_exec (gate_ready ready _) enabled
  case ftoiS =>
    intro ready z flags converts
    exact (FpWrote.setReg s d rfl).traps (exec_lfFtoiS_some ready converts) enabled
  case invalidS =>
    intro ready invalid
    have trap := (FpWrote.setReg s.drawn d rfl).of_drawn.traps (exec_lfFtoiS_none ready invalid) enabled
    exact trap.imp fun _ ⟨_, lo, hi, _⟩ => ⟨lo, hi⟩
  case maddS =>
    rintro ready _ rfl
    exact accumulated_traps (exec_lfMaddS ready) enabled
  case addD | subD | mulD | divD | itofD =>
    rintro ready _ rfl
    exact doubleTrap_of_exec (gate_ready ready _) enabled
  case ftoiD =>
    intro ready z flags converts
    exact doubleTrap_of_exec (exec_lfFtoiD_some ready converts) enabled
  case invalidD =>
    intro ready invalid
    have trap := (FpWrote.setDouble s.drawn d d2 _).of_drawn.traps (exec_lfFtoiD_none ready invalid) enabled
    exact trap.imp fun _ ⟨_, lo, hi, _⟩ => ⟨lo, hi⟩
  case maddD =>
    rintro ready _ rfl
    refine (accumulated_traps (exec_lfMaddD ready) enabled).imp fun u ⟨lo, hi, free⟩ => ⟨?_, free⟩
    rw [lo, hi]
    exact fpmadd_setFpmadd s _
  case quietS | quietD =>
    rintro _ _ rfl rfl
    refine compareTraps_of_exec ?_ enabled
    simp only [List.forall_mem_cons]
    exact ⟨rfl, rfl, List.forall_mem_nil _⟩
  case orderedS | orderedD =>
    rintro _ _ rfl rfl
    refine compareTraps_of_exec ?_ enabled
    simp only [List.forall_mem_cons]
    exact ⟨rfl, rfl, rfl, rfl, List.forall_mem_nil _⟩
  case unorderedS | unorderedD =>
    rintro _ _ rfl rfl
    refine compareTraps_of_exec ?_ enabled
    simp only [List.forall_mem_cons]
    exact ⟨rfl, rfl, rfl, rfl, rfl, rfl, rfl, List.forall_mem_nil _⟩

end Sys2Proof.Machine
end

section
/-! PROOF. NaN operands: the canonical quiet NaN and its flags. -/

namespace Sys2Proof.Machine

/-- The sum, the product and the quotient answer a NaN operand alike. -/
theorem eq_fpNan_of_nan (f : FpFormat) (rm : BitVec 2) {x y : FpVal} (nan : fpIsNan x = true ∨ fpIsNan y = true) :
    ∀ op ∈ [fpSum, fpProduct, fpQuotient], op f rm x y = fpNan f (fpIsSnan x || fpIsSnan y) := by
  simp only [List.forall_mem_cons]
  match x, y with
  | .nan _, .nan _ => exact ⟨rfl, rfl, rfl, List.forall_mem_nil _⟩
  | .nan _, .inf _ | .nan _, .fin .. =>
    simp only [fpIsSnan, Bool.or_false]
    exact ⟨rfl, rfl, rfl, List.forall_mem_nil _⟩
  | .inf _, .nan _ | .fin .., .nan _ => exact ⟨rfl, rfl, rfl, List.forall_mem_nil _⟩
  | .inf _, .inf _ | .inf _, .fin .. | .fin .., .inf _ | .fin .., .fin .. => simp [fpIsNan] at nan

theorem fpNan_single_bits (invalid : Bool) : (fpNan fpSingle invalid).bits = 0x7FC00000 := rfl

theorem fpNan_double_bits (invalid : Bool) : (fpNan fpDouble invalid).bits = 0x7FF8000000000000 := rfl

/-- Settles O51: the result is the canonical NaN of either format, invalid when an operand is signalling. -/
theorem nanOperands : Obligations.NanOperands := by
  intro rm x y nan op hop
  rw [eq_fpNan_of_nan fpSingle rm nan op hop, eq_fpNan_of_nan fpDouble rm nan op hop]
  exact ⟨fpNan_single_bits _, fpNan_double_bits _, rfl, rfl⟩

end Sys2Proof.Machine
end

section
/-! PROOF. Elements of vectors: the value of each operation on one element, as arithmetic. -/

namespace Sys2Proof.Machine

/-! ## Saturation -/

theorem satS_toInt_nibble (z : Int) : (satS 4 z).toInt = max (-8) (min 7 z) := satS_toInt (by decide) z

theorem satS_toInt_byte (z : Int) : (satS 8 z).toInt = max (-128) (min 127 z) := satS_toInt (by decide) z

theorem satS_toInt_half (z : Int) : (satS 16 z).toInt = max (-32768) (min 32767 z) := satS_toInt (by decide) z

theorem satS_toInt_word (z : Int) : (satS 32 z).toInt = max (-2147483648) (min 2147483647 z) :=
  satS_toInt (by decide) z

/-- Without a negative operand unsigned saturation has its upper bound alone (R701). -/
theorem satU_toNat_natCast (n m : Nat) : (satU n m).toNat = min (2 ^ n - 1) m := by
  have clamped := satU_toNat n m
  have pos := Nat.two_pow_pos n
  have cast : ((2 ^ n : Nat) : Int) = 2 ^ n := by norm_cast
  omega

theorem addSatU_toNat {n : Nat} (x y : BitVec n) : (addSatU x y).toNat = min (2 ^ n - 1) (x.toNat + y.toNat) := by
  rw [addSatU, ← Int.natCast_add, satU_toNat_natCast]

/-- A difference of two elements is never above the largest one, so that only zero bounds it (R806, R807). -/
theorem subSatU_toNat {n : Nat} (x y : BitVec n) : (subSatU x y).toNat = x.toNat - y.toNat := by
  have clamped := satU_toNat n (x.toNat - y.toNat)
  have small := x.isLt
  have cast : ((2 ^ n : Nat) : Int) = 2 ^ n := by norm_cast
  rw [subSatU]
  omega

/-! ## Averages, maxima and minima -/

/-- The average of two elements is an element, so that nothing is lost (R746, R747). -/
theorem average_toInt {n : Nat} (hn : 0 < n) (x y : BitVec n) : (average x y).toInt = (x.toInt + y.toInt) / 2 := by
  have double : (2 : Int) ^ n = 2 * 2 ^ (n - 1) := by rw [← pow_succ']; congr 1; omega
  have xl := BitVec.le_toInt x
  have xu := BitVec.toInt_lt (x := x)
  have yl := BitVec.le_toInt y
  have yu := BitVec.toInt_lt (x := y)
  rw [average, BitVec.toInt_ofInt, Int.bmod_eq_of_le] <;> push_cast <;> omega

theorem maxEl_toInt {n : Nat} (x y : BitVec n) : (maxEl x y).toInt = max x.toInt y.toInt := by
  unfold maxEl
  split
  · exact (max_eq_left (le_of_lt ‹_›)).symm
  · exact (max_eq_right (not_lt.mp ‹_›)).symm

theorem minEl_toInt {n : Nat} (x y : BitVec n) : (minEl x y).toInt = min x.toInt y.toInt := by
  unfold minEl
  split
  · exact (min_eq_left (le_of_lt ‹_›)).symm
  · exact (min_eq_right (not_lt.mp ‹_›)).symm

/-! ## Shifts and rotates -/

theorem countB_eq (y : BitVec 8) : countB y = y.toNat % 8 := by simp [countB]

theorem countH_eq (y : BitVec 16) : countH y = y.toNat % 16 := by simp [countH]

theorem toNat_shiftLeft_eq_mul {w : Nat} (x : BitVec w) (n : Nat) : (x <<< n).toNat = x.toNat * 2 ^ n % 2 ^ w := by
  rw [BitVec.toNat_shiftLeft, Nat.shiftLeft_eq]

theorem toNat_ushiftRight_eq_div {w : Nat} (x : BitVec w) (n : Nat) : (x >>> n).toNat = x.toNat / 2 ^ n := by
  rw [BitVec.toNat_ushiftRight, Nat.shiftRight_eq_div_pow]

theorem toInt_sshiftRight_eq_div {w : Nat} (x : BitVec w) (n : Nat) : (x.sshiftRight n).toInt = x.toInt / 2 ^ n := by
  rw [BitVec.toInt_sshiftRight, Int.shiftRight_eq_div_pow]
  norm_cast

/-- A rotate to the left by `n` is one to the right by the rest of the width. -/
theorem rotateLeft_eq_rotateRight_sub {w : Nat} (x : BitVec w) {n : Nat} (pos : 0 < n) (hn : n < w) :
    x.rotateLeft n = x.rotateRight (w - n) := by
  refine BitVec.eq_of_toNat_eq ?_
  rw [BitVec.toNat_rotateLeft, BitVec.toNat_rotateRight, Nat.mod_eq_of_lt hn, Nat.mod_eq_of_lt (by omega : w - n < w),
    Nat.sub_sub_self (le_of_lt hn), Nat.lor_comm]

/-- The bits that leave at the left come in at the right: as a sum modulo `2 ^ w`. -/
theorem toNat_rotateLeft_eq_sum {w : Nat} (x : BitVec w) {n : Nat} (hn : n < w) :
    (x.rotateLeft n).toNat = (x.toNat * 2 ^ n + x.toNat / 2 ^ (w - n)) % 2 ^ w := by
  rcases Nat.eq_zero_or_pos n with rfl | pos
  · simp [Nat.shiftRight_eq_div_pow, Nat.div_eq_of_lt x.isLt]
  · rw [rotateLeft_eq_rotateRight_sub x pos hn, toNat_rotateRight_eq_sum x (by omega), Nat.sub_sub_self (le_of_lt hn),
      Nat.add_comm]

/-! ## Relations -/

/-- The relation that a compare's name gives between two signed elements (R706, D51). -/
def Rel.Between {n : Nat} (r : Rel) (x y : BitVec n) : Prop :=
  match r with
  | .eq => x = y
  | .ge => x.toInt ≥ y.toInt
  | .gt => x.toInt > y.toInt
  | .le => x.toInt ≤ y.toInt
  | .lt => x.toInt < y.toInt
  | .ne => x ≠ y

theorem relHolds_iff {n : Nat} (r : Rel) (x y : BitVec n) : relHolds r x y = true ↔ r.Between x y := by
  cases r <;> exact decide_eq_true_iff

/-- The mask of one element of a compare (R750). -/
theorem repl_relHolds {n : Nat} (m : Nat) (r : Rel) (x y : BitVec n) {inst : Decidable (r.Between x y)} :
    repl m (relHolds r x y) = if r.Between x y then BitVec.allOnes m else 0 := by
  unfold repl
  simp only [relHolds_iff]

theorem allB_iff (r : Rel) (x y : Word) : allB r x y = true ↔ ∀ k, k < 8 → r.Between (byteEl x k) (byteEl y k) := by
  simp only [allB, List.all_eq_true, List.mem_range, relHolds_iff]

theorem allH_iff (r : Rel) (x y : Word) : allH r x y = true ↔ ∀ k, k < 4 → r.Between (halfEl x k) (halfEl y k) := by
  simp only [allH, List.all_eq_true, List.mem_range, relHolds_iff]

theorem anyB_iff (r : Rel) (x y : Word) : anyB r x y = true ↔ ∃ k, k < 8 ∧ r.Between (byteEl x k) (byteEl y k) := by
  simp only [anyB, List.any_eq_true, List.mem_range, relHolds_iff]

theorem anyH_iff (r : Rel) (x y : Word) : anyH r x y = true ↔ ∃ k, k < 4 ∧ r.Between (halfEl x k) (halfEl y k) := by
  simp only [anyH, List.any_eq_true, List.mem_range, relHolds_iff]

end Sys2Proof.Machine
end

section
/-! PROOF. Vector compares, and what an instruction that works element by element completes with. -/

namespace Sys2Proof.Machine

section
variable {s : State} {i : Instr} {d a b : RegNo}

/-! ## Results that come with a flag -/

/-- A compare of the all and any groups has its truth value in rD and in SR[F] (R720). -/
theorem regResult_resultFlag {f p : Bool} (ready : Ready s i) (runs : exec i s = gate i s (resultFlag d f s))
    (vector : subsetPresent s.cfg i = hasVector s.cfg) (value : p = f) :
    RegResult i s d (if p then BitVec.allOnes 64 else 0) (putBit s.sr 9 p) := by
  subst value
  exact regResult_intro (runs.trans (gate_ready ready _)) rfl (ctx_setF _ _)
    (trunc_x64 _ _ (xlen_of_vector ready vector))

theorem regResult_allB {r : Rel} (ready : Ready s i)
    (runs : exec i s = gate i s (resultFlag d (allB r (s.reg a) (s.reg b)) s))
    (vector : subsetPresent s.cfg i = hasVector s.cfg) {p : Bool}
    (hp : p = true ↔ ∀ k, k < 8 → r.Between (byteEl (s.reg a) k) (byteEl (s.reg b) k)) :
    RegResult i s d (if p then BitVec.allOnes 64 else 0) (putBit s.sr 9 p) :=
  regResult_resultFlag ready runs vector (Bool.eq_iff_iff.mpr (hp.trans (allB_iff r _ _).symm))

theorem regResult_anyB {r : Rel} (ready : Ready s i)
    (runs : exec i s = gate i s (resultFlag d (anyB r (s.reg a) (s.reg b)) s))
    (vector : subsetPresent s.cfg i = hasVector s.cfg) {p : Bool}
    (hp : p = true ↔ ∃ k, k < 8 ∧ r.Between (byteEl (s.reg a) k) (byteEl (s.reg b) k)) :
    RegResult i s d (if p then BitVec.allOnes 64 else 0) (putBit s.sr 9 p) :=
  regResult_resultFlag ready runs vector (Bool.eq_iff_iff.mpr (hp.trans (anyB_iff r _ _).symm))

theorem regResult_allH {r : Rel} (ready : Ready s i)
    (runs : exec i s = gate i s (resultFlag d (allH r (s.reg a) (s.reg b)) s))
    (vector : subsetPresent s.cfg i = hasVector s.cfg) {p : Bool}
    (hp : p = true ↔ ∀ k, k < 4 → r.Between (halfEl (s.reg a) k) (halfEl (s.reg b) k)) :
    RegResult i s d (if p then BitVec.allOnes 64 else 0) (putBit s.sr 9 p) :=
  regResult_resultFlag ready runs vector (Bool.eq_iff_iff.mpr (hp.trans (allH_iff r _ _).symm))

theorem regResult_anyH {r : Rel} (ready : Ready s i)
    (runs : exec i s = gate i s (resultFlag d (anyH r (s.reg a) (s.reg b)) s))
    (vector : subsetPresent s.cfg i = hasVector s.cfg) {p : Bool}
    (hp : p = true ↔ ∃ k, k < 4 ∧ r.Between (halfEl (s.reg a) k) (halfEl (s.reg b) k)) :
    RegResult i s d (if p then BitVec.allOnes 64 else 0) (putBit s.sr 9 p) :=
  regResult_resultFlag ready runs vector (Bool.eq_iff_iff.mpr (hp.trans (anyH_iff r _ _).symm))

/-! ## Results element by element -/

/-- An instruction that runs as an operation on byte elements: each element of rD is the operation's (R702). -/
theorem lanesB_zipB {f : BitVec 8 → BitVec 8 → BitVec 8} {P : Nat → BitVec 8 → Prop} (ready : Ready s i)
    (runs : exec i s = gate i s (result d (zipB f (s.reg a) (s.reg b)) s))
    (vector : subsetPresent s.cfg i = hasVector s.cfg)
    (elements : ∀ k, P k (f (byteEl (s.reg a) k) (byteEl (s.reg b) k))) : LanesB i s d P :=
  lanesB_intro (runs.trans (gate_ready ready _)) (xlen_of_vector ready vector) fun k _ => elements k

/-- Likewise on half-word elements (R702). -/
theorem lanesH_zipH {f : BitVec 16 → BitVec 16 → BitVec 16} {P : Nat → BitVec 16 → Prop} (ready : Ready s i)
    (runs : exec i s = gate i s (result d (zipH f (s.reg a) (s.reg b)) s))
    (vector : subsetPresent s.cfg i = hasVector s.cfg)
    (elements : ∀ k, P k (f (halfEl (s.reg a) k) (halfEl (s.reg b) k))) : LanesH i s d P :=
  lanesH_intro (runs.trans (gate_ready ready _)) (xlen_of_vector ready vector) fun k _ => elements k

/-- Masks of byte elements (R750). -/
theorem lanesB_mask {r : Rel} (ready : Ready s i)
    (runs : exec i s = gate i s (result d (zipB (fun x y => repl 8 (relHolds r x y)) (s.reg a) (s.reg b)) s))
    (vector : subsetPresent s.cfg i = hasVector s.cfg)
    {inst : ∀ k, Decidable (r.Between (byteEl (s.reg a) k) (byteEl (s.reg b) k))} :
    LanesB i s d fun k v => v = if r.Between (byteEl (s.reg a) k) (byteEl (s.reg b) k) then BitVec.allOnes 8 else 0 :=
  lanesB_zipB ready runs vector fun _ => repl_relHolds 8 r _ _

/-- Masks of half-word elements (R750). -/
theorem lanesH_mask {r : Rel} (ready : Ready s i)
    (runs : exec i s = gate i s (result d (zipH (fun x y => repl 16 (relHolds r x y)) (s.reg a) (s.reg b)) s))
    (vector : subsetPresent s.cfg i = hasVector s.cfg)
    {inst : ∀ k, Decidable (r.Between (halfEl (s.reg a) k) (halfEl (s.reg b) k))} :
    LanesH i s d fun k v => v = if r.Between (halfEl (s.reg a) k) (halfEl (s.reg b) k) then BitVec.allOnes 16 else 0 :=
  lanesH_zipH ready runs vector fun _ => repl_relHolds 16 r _ _

end

/-- Settles O53: each relation's truth value between all, some or single elements. -/
theorem vectorCompares : Obligations.VectorCompares := by
  intro s d a b
  refine ⟨?allEqB, ?anyEqB, ?cmpEqB, ?allGeB, ?anyGeB, ?cmpGeB, ?allGtB, ?anyGtB, ?cmpGtB, ?allLeB, ?anyLeB, ?cmpLeB,
    ?allLtB, ?anyLtB, ?cmpLtB, ?allNeB, ?anyNeB, ?cmpNeB, ?allEqH, ?anyEqH, ?cmpEqH, ?allGeH, ?anyGeH, ?cmpGeH,
    ?allGtH, ?anyGtH, ?cmpGtH, ?allLeH, ?anyLeH, ?cmpLeH, ?allLtH, ?anyLtH, ?cmpLtH, ?allNeH, ?anyNeH, ?cmpNeH⟩
  case allEqB | allGeB | allGtB | allLeB | allLtB | allNeB => exact fun ready p hp => regResult_allB ready rfl rfl hp
  case anyEqB | anyGeB | anyGtB | anyLeB | anyLtB | anyNeB => exact fun ready p hp => regResult_anyB ready rfl rfl hp
  case allEqH | allGeH | allGtH | allLeH | allLtH | allNeH => exact fun ready p hp => regResult_allH ready rfl rfl hp
  case anyEqH | anyGeH | anyGtH | anyLeH | anyLtH | anyNeH => exact fun ready p hp => regResult_anyH ready rfl rfl hp
  case cmpEqB | cmpGeB | cmpGtB | cmpLeB | cmpLtB | cmpNeB => exact fun ready => lanesB_mask ready rfl rfl
  case cmpEqH | cmpGeH | cmpGtH | cmpLeH | cmpLtH | cmpNeH => exact fun ready => lanesH_mask ready rfl rfl

end Sys2Proof.Machine
end

section
/-! PROOF. Vector instructions: arithmetic, pack and permute, and shifts. -/

namespace Sys2Proof.Machine

section
variable {s : State} {i : Instr} {d a b : RegNo}

/-- A vector instruction with one whole-register result: a register holds all of it (R700). -/
theorem regResult_vector {v v' : Word} (ready : Ready s i) (runs : exec i s = gate i s (result d v s))
    (vector : subsetPresent s.cfg i = hasVector s.cfg) (value : v = v') : RegResult i s d v' s.sr :=
  regResult_plain (runs.trans (gate_ready ready _)) ((trunc_x64 _ _ (xlen_of_vector ready vector)).trans value)

/-! ## Elements of one register -/

theorem lanesB_vecB {f : Nat → BitVec 8} {P : Nat → BitVec 8 → Prop} (ready : Ready s i)
    (runs : exec i s = gate i s (result d (vecB f) s)) (vector : subsetPresent s.cfg i = hasVector s.cfg)
    (elements : ∀ k, P k (f k)) : LanesB i s d P :=
  lanesB_intro (runs.trans (gate_ready ready _)) (xlen_of_vector ready vector) fun k _ => elements k

theorem lanesH_vecH {f : Nat → BitVec 16} {P : Nat → BitVec 16 → Prop} (ready : Ready s i)
    (runs : exec i s = gate i s (result d (vecH f) s)) (vector : subsetPresent s.cfg i = hasVector s.cfg)
    (elements : ∀ k, P k (f k)) : LanesH i s d P :=
  lanesH_intro (runs.trans (gate_ready ready _)) (xlen_of_vector ready vector) fun k _ => elements k

theorem lanesN_vecN {f : Nat → BitVec 4} {P : Nat → BitVec 4 → Prop} (ready : Ready s i)
    (runs : exec i s = gate i s (result d (vecN f) s)) (vector : subsetPresent s.cfg i = hasVector s.cfg)
    (elements : ∀ k, P k (f k)) : LanesN i s d P :=
  lanesN_intro (runs.trans (gate_ready ready _)) (xlen_of_vector ready vector) fun k _ => elements k

/-! ## Packing -/

/-- Nibble `k` of a pack is the narrowed element that stands at its place in rB below rA (R782, R784, R786). -/
theorem lanesN_packB {f : BitVec 8 → BitVec 4} {P : BitVec 8 → BitVec 4 → Prop} (ready : Ready s i)
    (runs : exec i s = gate i s (result d (packB f (s.reg a) (s.reg b)) s))
    (vector : subsetPresent s.cfg i = hasVector s.cfg) (narrows : ∀ x, P x (f x)) :
    LanesN i s d fun k v =>
      ∀ x, x = (if k < 8 then byteEl (s.reg b) k else byteEl (s.reg a) (k - 8)) → P x v := by
  refine lanesN_vecN ready runs vector ?_
  rintro k _ rfl
  split
  · exact narrows _
  · exact narrows _

/-- Byte `k` of a pack, likewise (R783, R785, R787). -/
theorem lanesB_packH {f : BitVec 16 → BitVec 8} {P : BitVec 16 → BitVec 8 → Prop} (ready : Ready s i)
    (runs : exec i s = gate i s (result d (packH f (s.reg a) (s.reg b)) s))
    (vector : subsetPresent s.cfg i = hasVector s.cfg) (narrows : ∀ x, P x (f x)) :
    LanesB i s d fun k v =>
      ∀ x, x = (if k < 4 then halfEl (s.reg b) k else halfEl (s.reg a) (k - 4)) → P x v := by
  refine lanesB_vecB ready runs vector ?_
  rintro k _ rfl
  split
  · exact narrows _
  · exact narrows _

/-! ## Shifts by the amount in the same element -/

theorem lanesB_shift {f : BitVec 8 → Nat → BitVec 8} {P : BitVec 8 → Nat → BitVec 8 → Prop} (ready : Ready s i)
    (runs : exec i s = gate i s (result d (zipB (fun x y => f x (countB y)) (s.reg a) (s.reg b)) s))
    (vector : subsetPresent s.cfg i = hasVector s.cfg) (shifts : ∀ x n, n < 8 → P x n (f x n)) :
    LanesB i s d fun k v => ∀ n, n = (byteEl (s.reg b) k).toNat % 8 → P (byteEl (s.reg a) k) n v := by
  refine lanesB_zipB ready runs vector ?_
  rintro k _ rfl
  rw [countB_eq]
  exact shifts _ _ (Nat.mod_lt _ (by decide))

theorem lanesH_shift {f : BitVec 16 → Nat → BitVec 16} {P : BitVec 16 → Nat → BitVec 16 → Prop} (ready : Ready s i)
    (runs : exec i s = gate i s (result d (zipH (fun x y => f x (countH y)) (s.reg a) (s.reg b)) s))
    (vector : subsetPresent s.cfg i = hasVector s.cfg) (shifts : ∀ x n, n < 16 → P x n (f x n)) :
    LanesH i s d fun k v => ∀ n, n = (halfEl (s.reg b) k).toNat % 16 → P (halfEl (s.reg a) k) n v := by
  refine lanesH_zipH ready runs vector ?_
  rintro k _ rfl
  rw [countH_eq]
  exact shifts _ _ (Nat.mod_lt _ (by decide))

end

/-- The amount of a whole-register shift, rB[2:0] (R794, R799, C12). -/
theorem wholeShift_eq (y : Word) : (y.extractLsb' 0 3).toNat = y.toNat % 8 := by simp

/-! ## The statements -/

/-- Settles O52: each form is an operation on elements, whose value the element's own lemma gives; the bit-wise forms
work on the whole register. -/
theorem vectorArithmetic : Obligations.VectorArithmetic := by
  intro s d a b
  refine ⟨?addB, ?subB, ?adduB, ?subuB, ?addsB, ?subsB, ?addusB, ?subusB, ?avgB, ?maxB, ?minB, ?addH, ?subH, ?adduH,
    ?subuH, ?addsH, ?subsH, ?addusH, ?subusH, ?avgH, ?maxH, ?minH, ?mulsH, ?and, ?or, ?xor, ?nand, ?nor⟩
  case addB | subB | adduB | subuB => exact fun ready => lanesB_zipB ready rfl rfl fun _ => rfl
  case addH | subH | adduH | subuH => exact fun ready => lanesH_zipH ready rfl rfl fun _ => rfl
  case addsB | subsB => exact fun ready => lanesB_zipB ready rfl rfl fun _ => satS_toInt_byte _
  case addsH | subsH | mulsH => exact fun ready => lanesH_zipH ready rfl rfl fun _ => satS_toInt_half _
  case addusB => exact fun ready => lanesB_zipB ready rfl rfl fun _ => addSatU_toNat _ _
  case addusH => exact fun ready => lanesH_zipH ready rfl rfl fun _ => addSatU_toNat _ _
  case subusB => exact fun ready => lanesB_zipB ready rfl rfl fun _ => subSatU_toNat _ _
  case subusH => exact fun ready => lanesH_zipH ready rfl rfl fun _ => subSatU_toNat _ _
  case avgB => exact fun ready => lanesB_zipB ready rfl rfl fun _ => average_toInt (by decide) _ _
  case avgH => exact fun ready => lanesH_zipH ready rfl rfl fun _ => average_toInt (by decide) _ _
  case maxB => exact fun ready => lanesB_zipB ready rfl rfl fun _ => maxEl_toInt _ _
  case maxH => exact fun ready => lanesH_zipH ready rfl rfl fun _ => maxEl_toInt _ _
  case minB => exact fun ready => lanesB_zipB ready rfl rfl fun _ => minEl_toInt _ _
  case minH => exact fun ready => lanesH_zipH ready rfl rfl fun _ => minEl_toInt _ _
  case and | or | xor | nand | nor => exact fun ready => regResult_vector ready rfl rfl rfl

/-- Settles O54: where an element of the result comes from is how the model builds the register; its value is that of
the narrowing or of the sign extension. -/
theorem vectorPackAndPermute : Obligations.VectorPackAndPermute := by
  intro s d a b
  refine ⟨?mergeB, ?mergeH, ?packB, ?packsB, ?packusB, ?packH, ?packsH, ?packusH, ?unpackB, ?unpackH, ?permN⟩
  case mergeB => exact fun ready => lanesB_vecB ready rfl rfl fun _ => rfl
  case mergeH => exact fun ready => lanesH_vecH ready rfl rfl fun _ => rfl
  case packB => exact fun ready => lanesN_packB ready rfl rfl fun _ => rfl
  case packH => exact fun ready => lanesB_packH ready rfl rfl fun _ => rfl
  case packsB => exact fun ready => lanesN_packB ready rfl rfl fun x => satS_toInt_nibble x.toInt
  case packsH => exact fun ready => lanesB_packH ready rfl rfl fun x => satS_toInt_byte x.toInt
  case packusB => exact fun ready => lanesN_packB ready rfl rfl fun x => satU_toNat_natCast 4 x.toNat
  case packusH => exact fun ready => lanesB_packH ready rfl rfl fun x => satU_toNat_natCast 8 x.toNat
  case unpackB => exact fun ready => lanesB_vecB ready rfl rfl fun _ => BitVec.toInt_signExtend_of_le (by decide)
  case unpackH => exact fun ready => lanesH_vecH ready rfl rfl fun _ => BitVec.toInt_signExtend_of_le (by decide)
  case permN => exact fun ready => lanesN_vecN ready rfl rfl fun _ => rfl

/-- Settles O55: every element is shifted by the low bits of its own element of rB, and lv.sll and lv.srl shift the
whole register. -/
theorem vectorShifts : Obligations.VectorShifts := by
  intro s d a b
  refine ⟨?sllB, ?srlB, ?sraB, ?rlB, ?sllH, ?srlH, ?sraH, ?rlH, ?sll, ?srl⟩
  case sllB =>
    exact fun ready => lanesB_shift (P := fun x n v => v.toNat = x.toNat * 2 ^ n % 2 ^ 8) ready rfl rfl
      fun x n _ => toNat_shiftLeft_eq_mul x n
  case sllH =>
    exact fun ready => lanesH_shift (P := fun x n v => v.toNat = x.toNat * 2 ^ n % 2 ^ 16) ready rfl rfl
      fun x n _ => toNat_shiftLeft_eq_mul x n
  case srlB =>
    exact fun ready => lanesB_shift (P := fun x n v => v.toNat = x.toNat / 2 ^ n) ready rfl rfl
      fun x n _ => toNat_ushiftRight_eq_div x n
  case srlH =>
    exact fun ready => lanesH_shift (P := fun x n v => v.toNat = x.toNat / 2 ^ n) ready rfl rfl
      fun x n _ => toNat_ushiftRight_eq_div x n
  case sraB =>
    exact fun ready => lanesB_shift (P := fun x n v => v.toInt = x.toInt / 2 ^ n) ready rfl rfl
      fun x n _ => toInt_sshiftRight_eq_div x n
  case sraH =>
    exact fun ready => lanesH_shift (P := fun x n v => v.toInt = x.toInt / 2 ^ n) ready rfl rfl
      fun x n _ => toInt_sshiftRight_eq_div x n
  case rlB =>
    exact fun ready => lanesB_shift (P := fun x n v => v.toNat = (x.toNat * 2 ^ n + x.toNat / 2 ^ (8 - n)) % 2 ^ 8)
      ready rfl rfl fun x n hn => toNat_rotateLeft_eq_sum x hn
  case rlH =>
    exact fun ready => lanesH_shift (P := fun x n v => v.toNat = (x.toNat * 2 ^ n + x.toNat / 2 ^ (16 - n)) % 2 ^ 16)
      ready rfl rfl fun x n hn => toNat_rotateLeft_eq_sum x hn
  case sll =>
    rintro ready _ rfl
    refine regResult_vector ready rfl rfl (BitVec.eq_of_toNat_eq ?_)
    rw [toNat_shiftLeft_eq_mul, wholeShift_eq, BitVec.toNat_ofNat]
  case srl =>
    rintro ready _ rfl
    refine regResult_vector ready rfl rfl (BitVec.eq_of_toNat_eq ?_)
    rw [toNat_ushiftRight_eq_div, wholeShift_eq, BitVec.toNat_ofNat]
    exact (Nat.mod_eq_of_lt ((Nat.div_le_self _ _).trans_lt (s.reg a).isLt)).symm

end Sys2Proof.Machine
end

section
/-! PROOF. The vector accumulators: lv.madds.h and lv.msubs.h. -/

namespace Sys2Proof.Machine

/-- The accumulators after a result in them: `f 0` and `f 1` in VMACLO, `f 2` and `f 3` in VMACHI (D52). -/
theorem vacc_of_halves {t : State} {f : Nat → Word32} (lo : t.vmaclo = f 1 ++ f 0) (hi : t.vmachi = f 3 ++ f 2)
    {k : Nat} (hk : k < 4) : t.vacc k = f k := by
  have upper (x y : Word32) : (x ++ y).extractLsb' 32 32 = x := BitVec.extractLsb'_append_eq_left
  have lower (x y : Word32) : (x ++ y).extractLsb' 0 32 = y := BitVec.extractLsb'_append_eq_right
  unfold State.vacc
  rw [lo, hi]
  match k, hk with
  | 0, _ => exact lower _ _
  | 1, _ => exact upper _ _
  | 2, _ => exact lower _ _
  | 3, _ => exact upper _ _

/-- What lv.madds.h and lv.msubs.h end in: the accumulators are `f`, rD has their low halves, nothing else changes. -/
structure VmacDone (s : State) (d : RegNo) (f : Nat → Word32) (t : State) : Prop where
  /-- The accumulators. -/
  vacc : ∀ k, k < 4 → t.vacc k = f k
  /-- Their low halves. -/
  reg : ∀ k, k < 4 → halfEl (t.reg d) k = (f k).extractLsb' 0 16
  /-- SR stays. -/
  sr : t.sr = s.sr
  /-- Control goes on. -/
  goesOn : GoesOn s t
  /-- The other registers stay. -/
  gpr : GprFrame s t [d]
  /-- Memory stays. -/
  mem : MemFrame s t []
  /-- Nothing else changes. -/
  frame : t = { s with gpr := t.gpr, vmaclo := t.vmaclo, vmachi := t.vmachi, pc := t.pc, ppc := t.ppc, ds := t.ds }

theorem vmacDone_advance {s u : State} {d : RegNo} {f : Nat → Word32} (wide : s.cfg.xlen = .x64)
    (hu : u = { s with
      gpr := (s.setReg d (vecH fun k => (f k).extractLsb' 0 16)).gpr, vmaclo := f 1 ++ f 0, vmachi := f 3 ++ f 2 }) :
    VmacDone s d f (advance u) := by
  have gpr : (advance u).gpr = (s.setReg d (vecH fun k => (f k).extractLsb' 0 16)).gpr := by rw [advance_gpr, hu]
  have reg : (advance u).reg d = vecH fun k => (f k).extractLsb' 0 16 := by
    rw [reg_of_gpr (s := s) (by rw [advance_cfg, hu]) (by rw [ctx_advance, hu]; rfl) d _ gpr, if_pos rfl,
      trunc_x64 _ _ wide]
  refine ⟨fun k hk => vacc_of_halves ?lo ?hi hk, fun k hk => by rw [reg, halfEl_vecH _ k hk], by rw [advance_sr, hu],
    goesOn_advance (by rw [hu]) (by rw [hu]) (by rw [hu]), gprFrame_setReg d _ gpr,
    memFrame_refl (by rw [advance_mem, hu]) _, by rw [advance_eq, hu]⟩
  case lo => rw [advance_vmaclo, hu]
  case hi => rw [advance_vmachi, hu]

theorem resultVmac_done (s : State) (d : RegNo) (f : Nat → Word32) (wide : s.cfg.xlen = .x64) :
    ∃ t, resultVmac d f s = .next t ∧ VmacDone s d f t := ⟨_, rfl, vmacDone_advance wide rfl⟩

/-- Settles O56: each accumulator is the saturated sum or difference, and rD has the low halves. -/
theorem vectorAccumulate : Obligations.VectorAccumulate := by
  intro s d a b
  refine ⟨?madds, ?msubs⟩
  case madds =>
    intro ready
    obtain ⟨t, ends, done⟩ := resultVmac_done s d (vmacAdd s (s.reg a) (s.reg b)) (xlen_of_vector ready rfl)
    refine ⟨t, (gate_ready ready _).trans ends, ?_, done.sr, done.goesOn, done.gpr, done.mem, done.frame⟩
    rintro k hk _ rfl
    rw [done.vacc k hk]
    exact ⟨satS_toInt_word _, done.reg k hk⟩
  case msubs =>
    intro ready
    obtain ⟨t, ends, done⟩ := resultVmac_done s d (vmacSub s (s.reg a) (s.reg b)) (xlen_of_vector ready rfl)
    refine ⟨t, (gate_ready ready _).trans ends, ?_, done.sr, done.goesOn, done.gpr, done.mem, done.frame⟩
    rintro k hk _ rfl
    rw [done.vacc k hk]
    exact ⟨satS_toInt_word _, done.reg k hk⟩

end Sys2Proof.Machine
end

section
/-! PROOF. Taking an exception: what each register holds afterwards, whether or not a context is left to enter. -/

namespace Sys2Proof.Machine

/-! ## The bits of SR on entry -/

/-- SR on entry, bit by bit: DSX computed, translation and interrupts off, supervisor mode, the rest kept (R860). -/
theorem entrySr_getLsbD (s : State) (k : Nat) :
    (entrySr s).getLsbD k =
      if k = 13 then s.inSlot else (s.sr.getLsbD k && (0xFFFFFF98 : Word32).getLsbD k || (1 : Word32).getLsbD k) := by
  rw [entrySr, getLsbD_putBit _ _ _ _ (by decide), BitVec.getLsbD_or, BitVec.getLsbD_and]

/-- SR after entry: with fast context switching SR[CID] is the entered context (R870). -/
def enteredSr (s : State) : Word32 :=
  if s.fastCtx then (entrySr s &&& 0x0FFFFFFF#32) ||| (s.entryCtx.setWidth 32 <<< 28) else entrySr s

/-- Below SR[CID], fast context switching does not matter. -/
theorem enteredSr_getLsbD_low (s : State) {k : Nat} (hk : k < 28) :
    (enteredSr s).getLsbD k = (entrySr s).getLsbD k := by
  have mask : ∀ k, k < 28 → (0x0FFFFFFF#32).getLsbD k = true := by decide
  unfold enteredSr
  split
  · rw [BitVec.getLsbD_or, BitVec.getLsbD_and, mask k hk, BitVec.getLsbD_shiftLeft]
    simp [hk]
  · rfl

/-- SR[CID] after entry (R870). -/
theorem enteredSr_cid (s : State) :
    (enteredSr s).extractLsb' 28 4 = if s.fastCtx then s.entryCtx else s.cid := by
  have above : ∀ k, k < 4 → (0x0FFFFFFF#32).getLsbD (28 + k) = false := by decide
  have kept : ∀ k, k < 4 → (0xFFFFFF98 : Word32).getLsbD (28 + k) = true := by decide
  have unset : ∀ k, k < 4 → (1 : Word32).getLsbD (28 + k) = false := by decide
  refine BitVec.eq_of_getLsbD_eq fun k hk => ?_
  rw [BitVec.getLsbD_extractLsb']
  unfold enteredSr
  split
  · rw [BitVec.getLsbD_or, BitVec.getLsbD_and, above k hk, BitVec.getLsbD_shiftLeft]
    simp [show 28 + k < 32 by omega, show k < 32 by omega, hk]
  · rw [entrySr_getLsbD, if_neg (by omega), kept k hk, unset k hk]
    simp [State.cid, hk]

theorem enteredSr_dsx (s : State) : (enteredSr s).getLsbD 13 = s.ds.isSome := by
  rw [enteredSr_getLsbD_low s (by decide), entrySr_getLsbD]
  rfl

theorem enteredSr_sm (s : State) : (enteredSr s).getLsbD 0 = true := by
  rw [enteredSr_getLsbD_low s (by decide), entrySr_getLsbD]
  exact Bool.or_true _

/-- TEE, IEE, DME and IME are off after entry (R860). -/
theorem enteredSr_off (s : State) : ∀ k ∈ [1, 2, 5, 6], (enteredSr s).getLsbD k = false := by
  have cleared : ∀ k ∈ [1, 2, 5, 6],
      k < 28 ∧ k ≠ 13 ∧ (0xFFFFFF98 : Word32).getLsbD k = false ∧ (1 : Word32).getLsbD k = false := by decide
  intro k hk
  obtain ⟨low, dsx, off, unset⟩ := cleared k hk
  rw [enteredSr_getLsbD_low s low, entrySr_getLsbD, if_neg dsx, off, unset, Bool.and_false, Bool.or_false]

/-- A bit below SR[CID] that entry leaves (R860). -/
theorem enteredSr_getLsbD_kept (s : State) {k : Nat} (hk : (0x0FFFDF98 : Word32).getLsbD k = true) :
    (enteredSr s).getLsbD k = s.sr.getLsbD k := by
  have kept : ∀ k < 32, (0x0FFFDF98 : Word32).getLsbD k = true →
      k < 28 ∧ k ≠ 13 ∧ (0xFFFFFF98 : Word32).getLsbD k = true ∧ (1 : Word32).getLsbD k = false := by decide
  obtain ⟨low, dsx, on, unset⟩ := kept k (BitVec.lt_of_getLsbD hk) hk
  rw [enteredSr_getLsbD_low s low, entrySr_getLsbD, if_neg dsx, on, unset, Bool.and_true, Bool.or_false]

/-- Two words that agree in every bit of a mask agree under it. -/
theorem and_eq_and_of_getLsbD {m x y : Word32} (h : ∀ k, m.getLsbD k = true → x.getLsbD k = y.getLsbD k) :
    x &&& m = y &&& m := by
  refine BitVec.eq_of_getLsbD_eq fun k _ => ?_
  rw [BitVec.getLsbD_and, BitVec.getLsbD_and]
  cases hk : m.getLsbD k
  · simp
  · rw [h k hk]

theorem enteredSr_kept (s : State) : enteredSr s &&& 0x0FFFDF98 = s.sr &&& 0x0FFFDF98 :=
  and_eq_and_of_getLsbD fun _ hk => enteredSr_getLsbD_kept s hk

/-! ## The context entered -/

theorem entryCtx_of_context {s : State} (left : s.outOfContexts = false) :
    s.entryCtx = if s.fastCtx then s.cid + 1 else 0 := by
  simp [State.entryCtx, left]

/-- With no context left the current one is kept, also where SR[CID] is above NSGF (R872, log 46). -/
theorem entryCtx_of_outOfContexts {s : State} (out : s.outOfContexts = true) : s.entryCtx = s.cid := by
  have fast : s.fastCtx = true := by
    simp only [State.outOfContexts, Bool.and_eq_true] at out
    exact out.1
  simp [State.entryCtx, out, fast]

/-- With no context left SR[CID] is kept as well (R872). -/
theorem enteredSr_kept_of_outOfContexts {s : State} (out : s.outOfContexts = true) :
    enteredSr s &&& 0xFFFFDF98 = s.sr &&& 0xFFFFDF98 := by
  have cid : (enteredSr s).extractLsb' 28 4 = s.sr.extractLsb' 28 4 := by
    rw [enteredSr_cid, entryCtx_of_outOfContexts out, ite_self]
    rfl
  have split : ∀ k < 32, (0xFFFFDF98 : Word32).getLsbD k = true → (0x0FFFDF98 : Word32).getLsbD k = true ∨ 28 ≤ k := by
    decide
  refine and_eq_and_of_getLsbD fun k hk => ?_
  have bound := BitVec.lt_of_getLsbD hk
  rcases split k bound hk with low | high
  · exact enteredSr_getLsbD_kept s low
  · have bit := congrArg (fun v : BitVec 4 => v.getLsbD (k - 28)) cid
    simpa [show k - 28 < 4 by omega, show 28 + (k - 28) = k by omega] using bit

/-! ## The registers after entry -/

section
variable {e : Exc} {a : Word} {ea : Option Word} {s : State}

theorem returnAddr_eq (s : State) (a : Word) :
    s.returnAddr a = trunc s.cfg (if s.ds.isSome then s.pc - 4 else a) := by
  rw [State.returnAddr, State.inSlot, apply_ite (trunc s.cfg)]

theorem enter_sr (h : s.diverts e = false) : (enter e a ea s).sr = enteredSr s := by rw [enter_eq h]; rfl

theorem enter_esr (h : s.diverts e = false) :
    (enter e a ea s).esr = s.esr.set s.entryCtx (s.sr.setWidth 64) := by rw [enter_eq h]; rfl

theorem enter_epcr (h : s.diverts e = false) :
    (enter e a ea s).epcr = s.epcr.set s.entryCtx (trunc s.cfg (if s.ds.isSome then s.pc - 4 else a)) := by
  rw [enter_eq h, returnAddr_eq]

theorem enter_pc (h : s.diverts e = false) :
    (enter e a ea s).pc = vectorAddr s (if s.outOfContexts then excNumber .range else excNumber e) := by rw [enter_eq h]

theorem enter_resv (h : s.diverts e = false) : (enter e a ea s).resv = none := by rw [enter_eq h]

theorem enter_ds (h : s.diverts e = false) : (enter e a ea s).ds = none := by rw [enter_eq h]

/-- Without an effective address EEAR stays (R864). -/
theorem enter_eear_none (h : s.diverts e = false) : (enter e a none s).eear = s.eear := by
  rw [enter_eq h, ite_self]

/-- With a context to enter its EEAR records the effective address (R864). -/
theorem enter_eear_some (h : s.diverts e = false) (left : s.outOfContexts = false) (x : Word) :
    (enter e a (some x) s).eear = s.eear.set s.entryCtx (trunc s.cfg x) := by
  rw [enter_eq h, left]; rfl

/-- With no context left EEAR stays (R872). -/
theorem enter_eear_of_outOfContexts (h : s.diverts e = false) (out : s.outOfContexts = true) :
    (enter e a ea s).eear = s.eear := by
  rw [enter_eq h, out]; rfl

/-- EEAR of a context that is not entered. -/
theorem enter_eear_get_ne (h : s.diverts e = false) (left : s.outOfContexts = false) {m : BitVec 4}
    (other : m ≠ s.entryCtx) : (enter e a ea s).eear.get m = s.eear.get m := by
  cases ea with
  | none => rw [enter_eear_none h]
  | some x => rw [enter_eear_some h left, Bank.get_set_ne _ _ _ _ other]

/-- Entry changes the saved registers, SR, the reservation, the program counter and the pending target, and records the
exception (R860). -/
theorem enter_frame (h : s.diverts e = false) : enter e a ea s = { s with
    esr := (enter e a ea s).esr, epcr := (enter e a ea s).epcr, eear := (enter e a ea s).eear
    sr := (enter e a ea s).sr, resv := (enter e a ea s).resv, ds := (enter e a ea s).ds, pc := (enter e a ea s).pc
    exc := (enter e a ea s).exc } := by
  rw [enter_eq h]

/-- SR[SM], TEE, IEE, DME, IME and DSX after entry (R860). -/
theorem enter_modes (h : s.diverts e = false) :
    (enter e a ea s).sm = true ∧ (enter e a ea s).tee = false ∧ (enter e a ea s).iee = false ∧
      (enter e a ea s).dme = false ∧ (enter e a ea s).ime = false ∧ (enter e a ea s).sr.getLsbD 13 = s.ds.isSome := by
  have off := enteredSr_off s
  simp only [List.forall_mem_cons] at off
  obtain ⟨tee, iee, dme, ime, -⟩ := off
  unfold State.sm State.tee State.iee State.dme State.ime
  rw [enter_sr h]
  exact ⟨enteredSr_sm s, tee, iee, dme, ime, enteredSr_dsx s⟩

end

/-- Settles O13: the registers of the entered context are set, those of the others stay, and SR follows bit by bit. -/
theorem exceptionEntryState : Obligations.ExceptionEntryState := by
  intro e a ea s h left
  obtain ⟨sm, tee, iee, dme, ime, dsx⟩ := enter_modes (a := a) (ea := ea) h
  refine ⟨s.entryCtx, entryCtx_of_context left, _, rfl, ?esr, ?epcr, ?eear, ?noEear, fun m other => ⟨?_, ?_, ?_⟩, sm,
    tee, iee, dme, ime, dsx, ?kept, ?cid, enter_resv h, enter_ds h, ?pc, enter_frame h⟩
  case esr => rw [enter_esr h, Bank.get_set_self]
  case epcr => rw [enter_epcr h, Bank.get_set_self]
  case eear => rintro x rfl; rw [enter_eear_some h left, Bank.get_set_self]
  case noEear => rintro rfl; exact enter_eear_none h
  case kept => rw [enter_sr h, enteredSr_kept]
  case cid => rw [State.cid, enter_sr h, enteredSr_cid]
  case pc => rw [enter_pc h, left]; rfl
  · rw [enter_esr h, Bank.get_set_ne _ _ _ _ other]
  · rw [enter_epcr h, Bank.get_set_ne _ _ _ _ other]
  · exact enter_eear_get_ne h left other

/-- Settles O14: each offset of Table 6-2 is the exception's number times 0x100. -/
theorem vectorOffsets : Obligations.VectorOffsets := by
  intro a ea s left p hp h
  have offset : BitVec.ofNat 64 (excNumber p.1 * 0x100) = p.2 := by
    clear h
    revert p
    decide
  rw [enter_pc h, left, ← offset]
  rfl

/-! ## System calls, traps, missing registers and the return -/

theorem exec_lSys {s : State} {k : BitVec 16} (ready : Ready s (.lSys k)) :
    exec (.lSys k) s = .next (enter .systemCall (s.pc + 4) none (executed s)) := gate_ready ready _

theorem exec_lTrap {s : State} {k : BitVec 16} (ready : Ready s (.lTrap k)) :
    exec (.lTrap k) s = .next (enter .trap s.pc none s) := gate_ready ready _

/-- Settles O16: l.sys enters its exception executed, l.trap enters its own as it is. -/
theorem systemCallAndTrap : Obligations.SystemCallAndTrap := by
  intro s k
  refine ⟨exec_lSys, fun ready h left => ⟨_, exec_lSys ready, ?sys⟩, exec_lTrap,
    fun ready h left => ⟨_, exec_lTrap ready, ?trap⟩⟩
  case sys =>
    have h' : (executed s).diverts .systemCall = false := h
    have left' : (executed s).outOfContexts = false := left
    obtain ⟨sm, -, -, -, -, dsx⟩ := enter_modes (a := s.pc + 4) (ea := none) h'
    refine ⟨?_, ?_, ?_, sm, dsx, enter_ppc .., enter_eear_none h', enter_gpr .., enter_mem ..⟩
    · rw [enter_pc h', left']; rfl
    · rw [enter_epcr h']; exact Bank.get_set_self ..
    · rw [enter_esr h']; exact Bank.get_set_self ..
  case trap =>
    obtain ⟨sm, -, -, -, -, dsx⟩ := enter_modes (a := s.pc) (ea := none) h
    refine ⟨?_, ?_, ?_, sm, dsx, enter_ppc .., enter_eear_none h, enter_gpr .., enter_mem ..⟩
    · rw [enter_pc h, left]; rfl
    · rw [enter_epcr h, Bank.get_set_self]
    · rw [enter_esr h, Bank.get_set_self]

/-- Settles O19: the checks before an instruction answer for a missing register, whatever the instruction would do. -/
theorem missingRegisterRange : Obligations.MissingRegisterRange := by
  intro i s present missing
  obtain ⟨run, gated⟩ := exec_gated i s
  rw [gated, gate_missing present missing]

theorem exec_lRfe {s : State} (ready : Ready s .lRfe) :
    exec .lRfe s = if s.sm then .next (returnFromExc s) else illegal s := gate_ready ready _

/-- Settles O17: the return reads EPCR and ESR of the current context; in user mode the instruction is illegal. -/
theorem returnFromException : Obligations.ReturnFromException := by
  intro s ready
  refine ⟨fun supervisor => ?returns, fun user => ?illegal⟩
  case returns =>
    exact ⟨returnFromExc s, by rw [exec_lRfe ready, if_pos supervisor], rfl, rfl, rfl, rfl, rfl, gprFrame_refl rfl _,
      memFrame_refl rfl _, rfl⟩
  case illegal =>
    rw [exec_lRfe ready, user]
    rfl

end Sys2Proof.Machine
end

section
/-! PROOF. One step: what is taken before an instruction, the instruction that the fetch decodes to, and a reset. -/

namespace Sys2Proof.Machine

/-- Settles O2: each word is the encoding of its instruction, which decodes to it. -/
theorem decodeSampleWords : Obligations.DecodeSampleWords :=
  ⟨decodeWord_encode (.lAdd 3 4 5), decodeWord_encode (.lAddi 3 4 0xFFFF), decodeWord_encode (.lSfeq 4 5),
    decodeWord_encode (.lSfeqi 4 0xFFFF), decodeWord_encode (.lLwz 3 4 2), decodeWord_encode (.lSw 4 5 0xF800),
    decodeWord_encode (.lJ 0x3FFFFFE), decodeWord_encode (.lJr 5), decodeWord_encode (.lMtspr 0 5 0x11),
    decodeWord_encode .lRfe, decodeWord_encode (.lMac 4 5), decodeWord_encode (.lfAddS 3 4 5),
    decodeWord_encode (.lfAddD 16 20 24 1 1 1), decodeWord_encode (.lvAddB 3 4 5), decodeWord_encode (.lvCmpNeH 3 4 5)⟩

/-! ## Before the instruction -/

/-- A running core takes what is pending before it fetches (R901 steps 4 to 6). -/
theorem step_takes {s t : State} (reset : resetAsserted s = false) (running : (beginStep s).status = .running)
    (pending : pendingEntry (beginStep s) = some t) : step s = .next t := by
  simp only [step, cycle, reset, Bool.false_eq_true, if_false, running, runCore, pending]

/-- Settles O6: each clause is one branch of `pendingEntry`. -/
theorem pendingExceptionOrder : Obligations.PendingExceptionOrder := by
  rintro s _ rfl reset running
  refine ⟨fun timer tee => ?_, fun noTimer irq iee => ?_, fun noTimer noIrq trap => ?_⟩
  · exact step_takes reset running (by simp only [pendingEntry, timer, tee, Bool.and_true, if_true])
  · exact step_takes reset running
      (by simp only [pendingEntry, noTimer, irq, iee, Bool.and_true, Bool.false_eq_true, if_false, if_true])
  · exact step_takes reset running
      (by simp only [pendingEntry, noTimer, noIrq, trap, Bool.false_eq_true, if_false, if_true])

/-! ## The instruction -/

/-- A fetched word that is an instruction runs when no watchpoint of its fetch makes a breakpoint (R901 steps 7, 8). -/
theorem runWord_decoded {w : Word32} {i : Instr} {s u : State} {pre : BitVec 10}
    (before : debugBefore (countEvent 6 s.sm 1 s) = (pre, u)) (noBreak : breakpoints u pre = 0)
    (decoded : decodeWord w = .ok i) : runWord w s = runInstr i pre u := by
  simp only [runWord, before, noBreak, if_true, decoded]

/-- Settles O3: a running core with nothing pending fetches, and the word it fetches runs. -/
theorem stepRunsInstruction : Obligations.StepRunsInstruction := by
  intro s s' w i reset running pending fetched decoded noBreak
  have run : fetchAndRun (beginStep s) = runWord w s' := by simp only [fetchAndRun, fetched]
  rw [step_fetches reset running pending, run, runWord_decoded rfl noBreak decoded]
  rfl

/-- Four bytes decode as the word that they join to (R216, R300). -/
theorem decode_eq_decodeWord_joinBytes (b0 b1 b2 b3 : Byte) :
    decode [b0, b1, b2, b3] = decodeWord ((joinBytes [b0, b1, b2, b3]).setWidth 32) := by
  have word : wordOfBytes b0 b1 b2 b3 = (joinBytes [b0, b1, b2, b3]).setWidth 32 := by
    refine BitVec.eq_of_toNat_eq ?_
    have h0 := b0.isLt
    have h1 := b1.isLt
    have h2 := b2.isLt
    have h3 := b3.isLt
    have value : bytesValue [b0, b1, b2, b3] = ((b0.toNat * 256 + b1.toNat) * 256 + b2.toNat) * 256 + b3.toNat := by
      simp [bytesValue]
    rw [joinBytes_eq, value, wordOfBytes]
    simp only [BitVec.toNat_append, BitVec.toNat_setWidth, BitVec.toNat_ofNat]
    rw [← Nat.shiftLeft_add_eq_or_of_lt (by omega), ← Nat.shiftLeft_add_eq_or_of_lt (by omega),
      ← Nat.shiftLeft_add_eq_or_of_lt (by omega)]
    simp only [Nat.shiftLeft_eq]
    omega
  rw [decode, word]

/-- Outside the OMPIC's window reading at checked addresses gives memory's bytes. -/
theorem readAt_of_outside {s : State} {pas : List Nat} (outside : ∀ p ∈ pas, inOmpic s.cfg p = false) :
    readAt pas s = .ok (pas.map (readByte s.mem)) s := by
  have memory : ompicAccess s.cfg pas = none := by
    unfold ompicAccess
    split
    · rfl
    · exact if_neg (by simpa using outside)
  rw [readAt, memory]

/-- An aligned fetch without translation gives the four bytes at the pc's physical address (R216, R217). -/
theorem fetchWord_plain {s : State} (untranslated : s.translated .fetch = false)
    (al : aligned (trunc s.cfg s.pc) 4 = true)
    (memory : ∀ j, j < 4 →
      validPa s.cfg .fetch (plainPa s s.pc + j) = true ∧ inOmpic s.cfg (plainPa s s.pc + j) = false) :
    fetchWord s =
      .ok ((joinBytes ((List.range 4).map fun j => readByte s.mem (plainPa s s.pc + j))).setWidth 32) s := by
  have address : plainPa s (trunc s.cfg s.pc) = plainPa s s.pc := by rw [plainPa, toU_trunc, plainPa]
  have whole : wholePas .fetch (trunc s.cfg s.pc) 4 s = .ok ((List.range 4).map fun j => plainPa s s.pc + j) s := by
    have answers := (memory 0 (by decide)).1
    rw [Nat.add_zero] at answers
    rw [wholePas_plain untranslated, address, if_pos answers]
  have bytes := readAt_of_outside (s := s) (pas := (List.range 4).map fun j => plainPa s s.pc + j) (by
    simp only [List.forall_mem_map, List.mem_range]
    exact fun j hj => (memory j hj).2)
  simp only [fetchWord, al, if_true, whole, AccRes.undone, bytes, List.map_map]
  rfl

theorem countAccess_noPcu {s : State} (noPcu : s.cfg.hasPcu = false) (sm : Bool) : countAccess sm s = s := by
  unfold countAccess
  split
  · exact countEvent_noPcu noPcu ..
  · exact countEvent_noPcu noPcu ..
  · rfl

/-- Without debug unit and performance counters nothing follows an instruction. -/
theorem finishInstr_plain {s : State} (noDu : s.cfg.hasDu = false) (noPcu : s.cfg.hasPcu = false) (i : Instr)
    (pre : BitVec 10) (pc : Word) (sm : Bool) : finishInstr i pre pc sm s = s := by
  simp [finishInstr, countAccess_noPcu noPcu, countMiss_noPcu noPcu, debugAfter, noDu]

theorem runInstr_plain {s : State} (noDu : s.cfg.hasDu = false) (noPcu : s.cfg.hasPcu = false) (i : Instr)
    (pre : BitVec 10) : runInstr i pre s = exec i s := by
  unfold runInstr
  cases he : exec i s with
  | next t =>
    have cfg := ((exec_ends i s).ended t he).keeps.cfg
    simp only [finishInstr_plain (cfg.symm ▸ noDu) (cfg.symm ▸ noPcu)]
  | fault f => rfl
  | refused r => rfl

/-- Settles O4: the fetch leaves the state, and nothing but `exec` acts on it. -/
theorem plainStepRunsBytes : Obligations.PlainStepRunsBytes := by
  rintro s _ i rfl reset running pending noDu noPcu untranslated al memory decoded
  have before : debugBefore (countEvent 6 (beginStep s).sm 1 (beginStep s)) = (0, beginStep s) := by
    rw [countEvent_noPcu noPcu, debugBefore_noDu noDu]
  have word := (decode_eq_decodeWord_joinBytes ..).symm.trans decoded
  have run := runWord_decoded before (breakpoints_zero _) word
  rw [step_fetches reset running pending, fetchAndRun, fetchWord_plain untranslated al memory]
  exact run.trans (runInstr_plain noDu noPcu i 0)

/-! ## Reset -/

theorem step_of_reset {s : State} (reset : resetAsserted s = true) : step s = .next (resetEvent (envStep s)) := by
  simp only [step, cycle, reset, if_true]

/-- The fields of an MMU's registers that have a reset value (R100-R110). -/
theorem mmu_reset_fields : MmuRegs.reset.cr = 0 ∧ MmuRegs.reset.pr = 0 ∧ (∀ i, MmuRegs.reset.tlbm.get i &&& 0xC3 = 0) ∧
    ∀ i, MmuRegs.reset.atbm.get i &&& 0x3F = 0 := by
  refine ⟨rfl, rfl, fun i => ?_, fun i => ?_⟩
  · rw [MmuRegs.reset, Bank.get_replicate]; rfl
  · rw [MmuRegs.reset, Bank.get_replicate]; rfl

/-- Settles O8: the environment's part of the step keeps the configuration, and the reset gives every register the value
that `State.resetOf` names. -/
theorem resetEventValues : Obligations.ResetEventValues := by
  intro s reset
  have cfg := (envStep_keeps s).cfg
  refine ⟨_, step_of_reset reset, cfg, ?pc, rfl, rfl, rfl, rfl, fun n => ⟨?epcr, ?eear, ?esr⟩, ?evbar, rfl, rfl, rfl,
    ?mmu, rfl, rfl, fun n => ⟨?dvr, ?dcr⟩, rfl, rfl, rfl, rfl, rfl, rfl, rfl, fun n => ⟨?pccr, ?pcmr⟩, rfl, ?picmr, rfl, rfl,
    ?ttmr, rfl⟩
  case pc => rw [← cfg]; rfl
  case evbar => rw [← cfg]; rfl
  case ttmr => exact (by decide : (0 : Word32).extractLsb' 28 4 = 0)
  case picmr => rw [← cfg]; rfl
  case mmu =>
    simp only [List.forall_mem_cons]
    exact ⟨mmu_reset_fields, mmu_reset_fields, nofun⟩
  case epcr | eear | esr | dvr | dcr | pccr => exact Bank.get_replicate _ n
  case pcmr =>
    have clear : (resetEvent (envStep s)).pcmr.get n = 0 := Bank.get_replicate _ n
    rw [readReg, clear]
    rfl

end Sys2Proof.Machine
end

section
/-! PROOF. The debug unit: when a pair matches, how watchpoints chain, and what their counters count. -/

namespace Sys2Proof.Machine

/-! ## Matches -/

/-- DCR[CT] observes `q` when `debugQuantity` gives it (R147). -/
theorem debugQuantity_eq_some_iff {ct : BitVec 3} {fetch : Word} {acc : Option Access}
    (data : ∀ a, acc = some a → a.kind ≠ .fetch) (q : Word) :
    debugQuantity ct fetch acc = some q ↔ Observed ct.toNat fetch acc q := by
  have bound := ct.isLt
  unfold debugQuantity Observed
  generalize ct.toNat = n at bound ⊢
  cases acc with
  | none =>
    rcases (by omega : n = 1 ∨ n ≠ 1) with rfl | other
    · simp [eq_comm]
    · interval_cases n <;> simp_all
  | some a =>
    obtain ⟨kind, ea, value⟩ := a
    cases kind
    case fetch => exact absurd rfl (data _ rfl)
    case load => interval_cases n <;> simp [eq_comm]
    case store => interval_cases n <;> simp [eq_comm]

/-- DCR[CC] names the comparison (R147). -/
theorem debugCompare_iff (cc : BitVec 3) (x y : Int) : debugCompare cc x y = true ↔ Compares cc.toNat x y := by
  have bound := cc.isLt
  unfold debugCompare Compares
  generalize cc.toNat = n at bound ⊢
  interval_cases n <;> simp

/-- DCR[CT], as a number (R141). -/
theorem dcrCt_toNat (d : Word32) : (d.extractLsb' 5 3).toNat = d.toNat / 2 ^ 5 % 8 := by
  simp [Nat.shiftRight_eq_div_pow]

/-- DCR[CC], as a number (R141). -/
theorem dcrCc_toNat (d : Word32) : (d.extractLsb' 1 3).toNat = d.toNat / 2 % 8 := by
  simp [Nat.shiftRight_eq_div_pow]

/-- A pair whose quantity is observed matches by its comparison, signed or not (R147). -/
theorem pairMatch_observed {c : Config} {dvr d : Word32} {fetch q : Word} {acc : Option Access}
    (observed : debugQuantity (d.extractLsb' 5 3) fetch acc = some q) :
    pairMatch c dvr d fetch acc = true ↔
      if d.getLsbD 4 = true then Compares (d.toNat / 2 % 8) (toS c q) dvr.toInt
      else Compares (d.toNat / 2 % 8) (toU c q) dvr.toNat := by
  simp only [pairMatch, observed, ← dcrCc_toNat, ← debugCompare_iff]
  split <;> rfl

/-- A pair that observes nothing does not match (R147). -/
theorem pairMatch_unobserved {c : Config} {dvr d : Word32} {fetch : Word} {acc : Option Access}
    (unobserved : debugQuantity (d.extractLsb' 5 3) fetch acc = none) : pairMatch c dvr d fetch acc = false := by
  simp only [pairMatch, unobserved]

theorem debugMatch_present {s : State} {i : BitVec 3} (present : i.toNat ≤ s.cfg.ndp.toNat) (fetch : Word)
    (acc : Option Access) :
    debugMatch s fetch acc i = pairMatch s.cfg (s.dbg.dvr.get i) (s.dbg.dcr.get i) fetch acc := by
  simp [debugMatch, present]

/-! ## Watchpoints -/

theorem chain_eq (sel : BitVec 2) (m x : Bool) :
    chain sel m x =
      if sel.toNat = 0 then m else if sel.toNat = 1 then m && x else if sel.toNat = 2 then m || x else false := by
  have bound := sel.isLt
  unfold chain
  generalize sel.toNat = n at bound ⊢
  interval_cases n <;> rfl

@[simp] theorem getElem_boolBit_one (b : Bool) : (boolBit 1 b)[0] = b := by cases b <;> rfl

/-- One bit joined below others. -/
theorem getLsbD_append_boolBit {k : Nat} (w : BitVec k) (b : Bool) (n : Nat) :
    (w ++ boolBit 1 b).getLsbD n = if n = 0 then b else w.getLsbD (n - 1) := by
  rw [BitVec.getLsbD_append]
  rcases Nat.eq_zero_or_pos n with rfl | pos
  · simp
  · simp [Nat.not_lt.mpr pos, Nat.ne_of_gt pos]

/-- Each watchpoint is the chain of its match and the watchpoint before it; 0 and 4 have the outside input (R142). -/
theorem watchpoints_getLsbD (s : State) (fetch : Word) (acc : Option Access) {n : Nat} (hn : n < 8) :
    (watchpoints s fetch acc).getLsbD n =
      chain (chainSel s n) (debugMatch s fetch acc (BitVec.ofNat 3 n))
        (if n = 0 ∨ n = 4 then s.extWp else (watchpoints s fetch acc).getLsbD (n - 1)) := by
  unfold watchpoints
  extract_lets m w0 w1 w2 w3 w4 w5 w6 w7
  simp only [getLsbD_append_boolBit]
  interval_cases n <;> simp <;> rfl

/-! ## The counters of watchpoints -/

/-- COUNT of a counter register advances modulo 2^16 (R144). -/
theorem addCount_count (r : Word32) (n : Nat) : (addCount r n).toNat % 2 ^ 16 = (r.toNat + n) % 2 ^ 16 := by
  have low : (addCount r n).toNat % 2 ^ 16 = ((addCount r n).extractLsb' 0 16).toNat := by simp
  rw [low, addCount, BitVec.extractLsb'_append_eq_right]
  simp [BitVec.toNat_add]

/-- MATCH of a counter register stays (R144). -/
theorem addCount_match (r : Word32) (n : Nat) : (addCount r n).toNat / 2 ^ 16 = r.toNat / 2 ^ 16 := by
  have high (w : Word32) : w.toNat / 2 ^ 16 = (w.extractLsb' 16 16).toNat := by
    have := w.isLt
    simp [Nat.shiftRight_eq_div_pow]
    omega
  rw [high, high, addCount, BitVec.extractLsb'_append_eq_left]

/-- The watchpoints that DMR2[AWTC] assigns to counter 1, counted (R143). -/
theorem popCount_assigned (fired : BitVec 10) (dmr2 : Word32) :
    popCount (fired &&& dmr2.extractLsb' 2 10) =
      ((List.range 10).filter fun n => fired.getLsbD n && dmr2.getLsbD (2 + n)).length := by
  refine congrArg List.length (List.filter_congr fun n hn => ?_)
  have bound := List.mem_range.mp hn
  simp [bound]

/-- Those that it assigns to counter 0, counted (R143). -/
theorem popCount_unassigned (fired : BitVec 10) (dmr2 : Word32) :
    popCount (fired &&& ~~~dmr2.extractLsb' 2 10) =
      ((List.range 10).filter fun n => fired.getLsbD n && !dmr2.getLsbD (2 + n)).length := by
  refine congrArg List.length (List.filter_congr fun n hn => ?_)
  have bound := List.mem_range.mp hn
  simp [bound]

end Sys2Proof.Machine
end

section
/-! PROOF. Breakpoints, single-step and branch trace: what the debug unit does around an instruction. -/

namespace Sys2Proof.Machine

/-! ## Breakpoints and their record -/

section
variable {s : State} {n : Nat}

/-- A watchpoint that fired makes a breakpoint by its bit of DMR2[WGB] (R143). -/
theorem breakpoints_getLsbD (s : State) (fired : BitVec 10) (hn : n < 10) :
    (breakpoints s fired).getLsbD n = (fired.getLsbD n && s.dbg.dmr2.getLsbD (12 + n)) := by
  simp [breakpoints, hn]

theorem breakpoints_ne_zero {fired : BitVec 10} (hn : n < 10) (fires : fired.getLsbD n = true)
    (generates : s.dbg.dmr2.getLsbD (12 + n) = true) : breakpoints s fired ≠ 0 := by
  intro h
  have bit := breakpoints_getLsbD s fired hn
  rw [h, fires, generates] at bit
  simp at bit

/-- With DMR2[WGB] clear no watchpoint makes a breakpoint (R143). -/
theorem breakpoints_of_wgb_clear (clear : s.dbg.dmr2.toNat / 2 ^ 12 % 2 ^ 10 = 0) (fired : BitVec 10) :
    breakpoints s fired = 0 := by
  have wgb : s.dbg.dmr2.extractLsb' 12 10 = 0#10 := by
    refine BitVec.eq_of_toNat_eq ?_
    rw [BitVec.extractLsb'_toNat, Nat.shiftRight_eq_div_pow, clear]
    rfl
  rw [breakpoints, wgb]
  exact BitVec.and_zero

/-- DMR2 with the breakpoints recorded in DMR2[WBS] (R143). -/
def recordedDmr2 (s : State) (fired : BitVec 10) : Word32 :=
  s.dbg.dmr2 ||| ((breakpoints s fired).setWidth 32 <<< 22)

/-- A breakpoint's bit of DMR2[WBS] is set (R143, R148). -/
theorem recordedDmr2_wbs {fired : BitVec 10} (hn : n < 10) (fires : fired.getLsbD n = true)
    (generates : s.dbg.dmr2.getLsbD (12 + n) = true) : (recordedDmr2 s fired).getLsbD (22 + n) = true := by
  have bit := breakpoints_getLsbD s fired hn
  rw [fires, generates] at bit
  simp [recordedDmr2, bit, show 22 + n < 32 by omega]

theorem recordedDmr2_of_set {fired : BitVec 10} {k : Nat} (set : s.dbg.dmr2.getLsbD k = true) :
    (recordedDmr2 s fired).getLsbD k = true := by
  rw [recordedDmr2, BitVec.getLsbD_or, set, Bool.true_or]

/-- Counting watchpoints twice changes their counters alone (R148). -/
theorem countWatchpoints_twice (s : State) (first second : BitVec 10) : ∃ dwcr0 dwcr1,
    countWatchpoints (countWatchpoints s first) second =
      { s with dbg := { s.dbg with dwcr0 := dwcr0, dwcr1 := dwcr1 } } := ⟨_, _, rfl⟩

/-- Counting watchpoints in the performance counters changes these alone (R161). -/
theorem countWpEvents_eq (s : State) (sm : Bool) (fired : BitVec 10) :
    countWpEvents s sm fired = { s with pccr := (countWpEvents s sm fired).pccr } := by
  unfold countWpEvents
  exact List.foldlRecOn (motive := fun t : State => t = { s with pccr := t.pccr }) (List.range 10) _ rfl
    fun t ht k _ => by rw [countEvent_eq, ht]

theorem countWpEvents_noPcu (noPcu : s.cfg.hasPcu = false) (sm : Bool) (fired : BitVec 10) :
    countWpEvents s sm fired = s := by
  unfold countWpEvents
  exact List.foldlRecOn (motive := fun t : State => t = s) (List.range 10) _ rfl
    fun t ht k _ => by rw [ht, countEvent_noPcu noPcu]

/-! ## Before the instruction -/

/-- Before the instruction the debug unit counts and records, and without performance counters nothing else changes. -/
theorem debugBefore_snd (hasDu : s.cfg.hasDu = true) (noPcu : s.cfg.hasPcu = false) : ∃ dwcr0 dwcr1,
    (debugBefore s).2 = { s with
      dbg := { s.dbg with dwcr0 := dwcr0, dwcr1 := dwcr1, dmr2 := recordedDmr2 s (debugBefore s).1 } } := by
  have counted (t : State) (cfg : t.cfg = s.cfg) (fired : BitVec 10) : countWpEvents t s.sm fired = t :=
    countWpEvents_noPcu (cfg.symm ▸ noPcu) s.sm fired
  unfold debugBefore
  rw [if_pos hasDu]
  simp only
  rw [counted (countWatchpoints (countWatchpoints s _) _) rfl]
  exact ⟨_, _, rfl⟩

/-- A watchpoint that the fetch address fires (R148). -/
theorem debugBefore_fires_of_watchpoint (hasDu : s.cfg.hasDu = true)
    (fires : (watchpoints s (trunc s.cfg s.pc) none).getLsbD n = true) : (debugBefore s).1.getLsbD n = true := by
  have bound := BitVec.lt_of_getLsbD fires
  simp only [debugBefore, if_pos hasDu, BitVec.getLsbD_or, BitVec.getLsbD_setWidth, fires, Bool.and_true]
  simp [show n < 10 by omega]

/-- The chain of a counter's watchpoint on what a fetch brings about: `hit` when the counter is at its match value after
the fetch, `was` when it was before (R142, R148, log 22). -/
theorem chain_fetchMatch {c : Config} {sel : BitVec 2} {before after : Word32} {x : Bool} {hit was : Prop}
    (hhit : counterMatch c after = true ↔ hit) (hwas : hit → (counterMatch c before = true ↔ was))
    (fires : (sel.toNat = 0 ∧ hit ∧ ¬was) ∨ (sel.toNat = 1 ∧ hit ∧ x = true)
      ∨ (sel.toNat = 2 ∧ (hit ∧ ¬was ∨ x = true))) :
    chain sel (fetchMatch c sel before after) x = true := by
  have brought (h : hit ∧ ¬was) : fetchMatch c sel before after = true :=
    (fetchMatch_iff ..).mpr
      ⟨hhit.mpr h.1, .inl (Bool.eq_false_iff.mpr fun already => h.2 ((hwas h.1).mp already))⟩
  rw [chain_iff]
  rcases fires with ⟨sel0, new⟩ | ⟨sel1, new, chained⟩ | ⟨sel2, new | chained⟩
  · exact .inl ⟨sel0, brought new⟩
  · exact .inr (.inl ⟨sel1, (fetchMatch_iff ..).mpr ⟨hhit.mpr new, .inr (BitVec.eq_of_toNat_eq sel1)⟩, chained⟩)
  · exact .inr (.inr ⟨sel2, .inl (brought new)⟩)
  · exact .inr (.inr ⟨sel2, .inr chained⟩)

/-- A watchpoint of a counter that the fetch fires (R148, log 22). -/
theorem debugBefore_fires_of_fetch (hasDu : s.cfg.hasDu = true) (hn : n = 8 ∨ n = 9)
    (fires : FetchFires s (watchpoints s (trunc s.cfg s.pc) none) n) : (debugBefore s).1.getLsbD n = true := by
  unfold FetchFires at fires
  simp only [← chainSel_toNat] at fires
  simp only [debugBefore, if_pos hasDu, BitVec.getLsbD_or]
  rcases hn with rfl | rfl
  · rw [counterPoints_8, chain_fetchMatch (counterMatch_iff ..)
      (fun hit => (counterMatch_iff ..).trans (and_iff_right hit.1)) fires, Bool.or_true]
  · rw [counterPoints_9, chain_fetchMatch (counterMatch_iff ..)
      (fun hit => (counterMatch_iff ..).trans (and_iff_right hit.1)) fires, Bool.or_true]

/-- A breakpoint before the instruction traps at it, recorded, and the instruction does not run (R148, D24). -/
theorem runWord_breakpoint (hasDu : s.cfg.hasDu = true) (noPcu : s.cfg.hasPcu = false) (w : Word32) (hn : n < 10)
    (fires : (debugBefore s).1.getLsbD n = true) (generates : s.dbg.dmr2.getLsbD (12 + n) = true) :
    ∃ v, runWord w s = .next (enter .trap s.pc none v) ∧ v.dbg.dmr2.getLsbD (22 + n) = true ∧
      v = { s with dbg := v.dbg } := by
  obtain ⟨dwcr0, dwcr1, after⟩ := debugBefore_snd hasDu noPcu
  have wgb : (debugBefore s).2.dbg.dmr2.getLsbD (12 + n) = true := by
    rw [after]
    exact recordedDmr2_of_set generates
  refine ⟨(debugBefore s).2, ?traps, ?recorded, by rw [after]⟩
  case traps =>
    have pc : (debugBefore s).2.pc = s.pc := by rw [after]
    simp only [runWord, countEvent_noPcu noPcu, if_neg (breakpoints_ne_zero hn fires wgb), pc]
  case recorded =>
    rw [after]
    exact recordedDmr2_wbs hn fires generates

/-- The step in which a fetch brings a breakpoint about. -/
theorem step_breakpoint {s' : State} {w : Word32} (reset : resetAsserted s = false)
    (running : (beginStep s).status = .running) (pending : pendingEntry (beginStep s) = none)
    (noPcu : (beginStep s).cfg.hasPcu = false) (hasDu : (beginStep s).cfg.hasDu = true)
    (fetched : fetchWord (beginStep s) = .ok w s') (hn : n < 10)
    (fires : s'.cfg.hasDu = true → (debugBefore s').1.getLsbD n = true)
    (generates : s'.dbg.dmr2.getLsbD (12 + n) = true) :
    ∃ v, step s = .next (enter .trap s'.pc none v) ∧ v.dbg.dmr2.getLsbD (22 + n) = true ∧
      v = { s' with dbg := v.dbg } := by
  have cfg := ((fetchWord_keeps (beginStep s)).1 w s' fetched).cfg
  have run : fetchAndRun (beginStep s) = runWord w s' := by simp only [fetchAndRun, fetched]
  rw [step_fetches reset running pending, run]
  rw [← cfg] at noPcu hasDu
  exact runWord_breakpoint hasDu noPcu w hn (fires hasDu) generates

/-! ## After the instruction -/

/-- The watchpoints that an instruction's own access adds to those of its fetch (R148). -/
def accessFired (pre : BitVec 10) (pc : Word) (s : State) : BitVec 10 :=
  (watchpoints s pc s.acc).setWidth 10 &&& ~~~pre

/-- The watchpoints of the counters, once these are counted (R148). -/
def counterFired (pre : BitVec 10) (pc : Word) (s : State) : BitVec 10 :=
  let t := countWatchpoints s (accessFired pre pc s)
  counterPoints t (counterMatch t.cfg t.dbg.dwcr0) (counterMatch t.cfg t.dbg.dwcr1) (watchpoints s pc s.acc) &&& ~~~pre

/-- All that fires after an instruction (R148, D24). -/
def afterFired (pre : BitVec 10) (pc : Word) (s : State) : BitVec 10 := accessFired pre pc s ||| counterFired pre pc s

theorem countAccess_eq (sm : Bool) (s : State) : countAccess sm s = { s with pccr := (countAccess sm s).pccr } := by
  unfold countAccess
  split
  · exact countEvent_eq ..
  · exact countEvent_eq ..
  · rfl

/-- What the debug unit does after an instruction, in the order in which it does it (R148, R149). -/
theorem debugAfter_of_du (hasDu : s.cfg.hasDu = true) (pre : BitVec 10) (pc : Word) (sm branch : Bool) :
    debugAfter pre pc sm branch s =
      let t := countWatchpoints (countWatchpoints s (accessFired pre pc s)) (counterFired pre pc s)
      let u := recordBreak (countWpEvents t sm (afterFired pre pc s)) (afterFired pre pc s)
      { u with
        dbgPending := decide (breakpoints t (afterFired pre pc s) ≠ 0) || u.dbg.dmr1.getLsbD 22
          || (branch && u.dbg.dmr1.getLsbD 23) } := by
  unfold debugAfter
  rw [if_pos hasDu]
  rfl

/-- After an instruction that completed, the debug unit counts, records and decides whether a trap is pending (R148,
R149). -/
theorem debugAfter_eq (hasDu : s.cfg.hasDu = true) (pre : BitVec 10) (pc : Word) (sm branch : Bool) :
    ∃ pccr dwcr0 dwcr1, debugAfter pre pc sm branch s = { s with
      pccr := pccr
      dbg := { s.dbg with dwcr0 := dwcr0, dwcr1 := dwcr1, dmr2 := recordedDmr2 s (afterFired pre pc s) }
      dbgPending := decide (breakpoints s (afterFired pre pc s) ≠ 0) || s.dbg.dmr1.getLsbD 22
        || (branch && s.dbg.dmr1.getLsbD 23) } := by
  rw [debugAfter_of_du hasDu]
  obtain ⟨dwcr0, dwcr1, counted⟩ := countWatchpoints_twice s (accessFired pre pc s) (counterFired pre pc s)
  rw [counted]
  generalize afterFired pre pc s = fired
  simp only
  rw [countWpEvents_eq]
  exact ⟨_, dwcr0, dwcr1, rfl⟩

theorem watchpoints_pccr (s : State) (p : Bank Word32 3) (pc : Word) (acc : Option Access) :
    watchpoints { s with pccr := p } pc acc = watchpoints s pc acc := rfl

/-- The performance counters do not matter to what fires. -/
theorem afterFired_pccr (s : State) (p : Bank Word32 3) (pre : BitVec 10) (pc : Word) :
    afterFired pre pc { s with pccr := p } = afterFired pre pc s := by
  unfold afterFired counterFired accessFired
  simp only [watchpoints_pccr]
  rfl

theorem finishInstr_eq (hasDu : s.cfg.hasDu = true) (completed : s.exc = none) (i : Instr) (pre : BitVec 10) (pc : Word)
    (sm : Bool) : ∃ pccr dwcr0 dwcr1, finishInstr i pre pc sm s = { s with
      pccr := pccr
      dbg := { s.dbg with dwcr0 := dwcr0, dwcr1 := dwcr1, dmr2 := recordedDmr2 s (afterFired pre pc s) }
      dbgPending := decide (breakpoints s (afterFired pre pc s) ≠ 0) || s.dbg.dmr1.getLsbD 22
        || (isBranch i && s.dbg.dmr1.getLsbD 23) } := by
  have noMiss : finishInstr i pre pc sm s = debugAfter pre pc sm (isBranch i) (countAccess sm s) := by
    rw [finishInstr, countAccess_eq]
    simp only [countMiss, completed, if_true]
  have examined := debugAfter_eq (s := { s with pccr := (countAccess sm s).pccr }) hasDu pre pc sm (isBranch i)
  rw [noMiss, countAccess_eq]
  rw [afterFired_pccr] at examined
  exact examined

theorem afterFired_of_accessFired {pre : BitVec 10} {pc : Word} (fires : (accessFired pre pc s).getLsbD n = true) :
    (afterFired pre pc s).getLsbD n = true := by
  rw [afterFired, BitVec.getLsbD_or, fires, Bool.true_or]

/-- A counter at its match value fires its watchpoint when that is not chained (R142, R148). -/
theorem chain_of_reached {c : Config} {sel : BitVec 2} {r : Word32} (wpci : c.wpci = true) (unchained : sel.toNat = 0)
    (reached : r.toNat % 2 ^ 16 = r.toNat / 2 ^ 16) (x : Bool) : chain sel (counterMatch c r) x = true :=
  (chain_iff ..).mpr (.inl ⟨unchained, (counterMatch_iff ..).mpr ⟨wpci, reached⟩⟩)

/-- Watchpoint 8, unchained, fires when counter 0 has reached its match value (R142, R148). -/
theorem afterFired_8 {pre : BitVec 10} {pc : Word} (wpci : s.cfg.wpci = true)
    (unchained : s.dbg.dmr1.toNat / 4 ^ 8 % 4 = 0) (new : pre.getLsbD 8 = false)
    (reached : (countWatchpoints s (accessFired pre pc s)).dbg.dwcr0.toNat % 2 ^ 16 = s.dbg.dwcr0.toNat / 2 ^ 16) :
    (afterFired pre pc s).getLsbD 8 = true := by
  rw [afterFired, BitVec.getLsbD_or, counterFired, BitVec.getLsbD_and, counterPoints_8,
    chain_of_reached (c := (countWatchpoints s _).cfg) (sel := chainSel (countWatchpoints s _) 8) wpci
      ((chainSel_toNat ..).trans unchained) (reached.trans (addCount_match ..).symm),
    BitVec.getLsbD_not, new]
  exact Bool.or_true _

/-- Watchpoint 9, unchained, fires when counter 1 has reached its match value (R142, R148). -/
theorem afterFired_9 {pre : BitVec 10} {pc : Word} (wpci : s.cfg.wpci = true)
    (unchained : s.dbg.dmr1.toNat / 4 ^ 9 % 4 = 0) (new : pre.getLsbD 9 = false)
    (reached : (countWatchpoints s (accessFired pre pc s)).dbg.dwcr1.toNat % 2 ^ 16 = s.dbg.dwcr1.toNat / 2 ^ 16) :
    (afterFired pre pc s).getLsbD 9 = true := by
  rw [afterFired, BitVec.getLsbD_or, counterFired, BitVec.getLsbD_and, counterPoints_9,
    chain_of_reached (c := (countWatchpoints s _).cfg) (sel := chainSel (countWatchpoints s _) 9) wpci
      ((chainSel_toNat ..).trans unchained) (reached.trans (addCount_match ..).symm),
    BitVec.getLsbD_not, new]
  exact Bool.or_true _

/-- A breakpoint after an instruction makes a trap pending and is recorded (R143, R148). -/
theorem finishInstr_breaks (hasDu : s.cfg.hasDu = true) (completed : s.exc = none) (i : Instr) {pre : BitVec 10}
    {pc : Word} (sm : Bool) (hn : n < 10) (fires : (afterFired pre pc s).getLsbD n = true)
    (generates : s.dbg.dmr2.getLsbD (12 + n) = true) :
    (finishInstr i pre pc sm s).dbgPending = true ∧ (finishInstr i pre pc sm s).dbg.dmr2.getLsbD (22 + n) = true := by
  obtain ⟨pccr, dwcr0, dwcr1, examined⟩ := finishInstr_eq hasDu completed i pre pc sm
  have stop := decide_eq_true (breakpoints_ne_zero hn fires generates)
  rw [examined]
  exact ⟨by simp only [stop, Bool.true_or], recordedDmr2_wbs hn fires generates⟩

end

/-! ## The statement, clause by clause -/

/-- A diverted exception records itself in DRR and stops the core (R895). -/
theorem enter_diverts {e : Exc} {s : State} (h : s.diverts e = true) (a : Word) (ea : Option Word) :
    ∃ drr, enter e a ea s = { s with dbg := { s.dbg with drr := drr }, status := .stopped, exc := some e }
      ∧ ∀ n, drr.getLsbD n = (s.dbg.drr.getLsbD n || decide (n = excNumber e - 1)) := by
  refine ⟨_, enter_diverted h, fun n => ?_⟩
  have bound : excNumber e - 1 < 32 := by cases e <;> decide
  rw [getLsbD_putBit _ _ _ _ bound]
  by_cases own : n = excNumber e - 1 <;> simp [own]

/-- Settles O15: entry as it is diverted or finds no context left; a pair, a chain and a count as numbers; and the step
before and the record after an instruction. -/
theorem debugUnitAndEntryDiversions : Obligations.DebugUnitAndEntryDiversions := by
  intro s
  refine ⟨fun e a ea h => enter_diverts h a ea, ?outOfContexts, ?pair, ?chain, ?counts, ?before, ?beforeCounter, ?after⟩
  case outOfContexts =>
    intro e a ea h out
    have ctx := entryCtx_of_outOfContexts out
    obtain ⟨sm, tee, iee, dme, ime, dsx⟩ := enter_modes (a := a) (ea := ea) h
    refine ⟨_, rfl, ?_, ?_, ?_, fun m other => ⟨?_, ?_⟩, sm, tee, iee, dme, ime, dsx, ?_, enter_resv h, enter_ds h, ?_⟩
    · rw [enter_pc h, if_pos out]; rfl
    · rw [enter_esr h, ctx, Bank.get_set_self]
    · rw [enter_epcr h, ctx, Bank.get_set_self]
    · rw [enter_esr h, ctx, Bank.get_set_ne _ _ _ _ other]
    · rw [enter_epcr h, ctx, Bank.get_set_ne _ _ _ _ other]
    · rw [enter_sr h, enteredSr_kept_of_outOfContexts out]
    · conv_lhs => rw [enter_frame h, enter_eear_of_outOfContexts h out]
  case pair =>
    rintro fetch acc i _ _ _ present data rfl rfl rfl
    rw [debugMatch_present present, ← dcrCt_toNat]
    refine ⟨fun q observed => ?_, fun unobserved => ?_⟩
    · exact pairMatch_observed ((debugQuantity_eq_some_iff data q).mpr observed)
    · exact pairMatch_unobserved
        (Option.eq_none_iff_forall_ne_some.mpr fun q h => unobserved q ((debugQuantity_eq_some_iff data q).mp h))
  case chain =>
    rintro fetch acc n _ _ _ hn rfl rfl rfl
    rw [watchpoints_getLsbD s fetch acc hn, chain_eq, chainSel_toNat]
  case counts =>
    rintro fired _ rfl
    refine ⟨rfl, addCount_match .., addCount_match .., ?_, ?_⟩
    · rw [← popCount_unassigned]; exact addCount_count ..
    · rw [← popCount_assigned]; exact addCount_count ..
  case before =>
    rintro _ s' w n rfl reset running pending noPcu hasDu fetched hn fires generates
    exact step_breakpoint reset running pending noPcu hasDu fetched (by omega)
      (fun hasDu' => debugBefore_fires_of_watchpoint hasDu' fires) generates
  case beforeCounter =>
    rintro _ s' w n rfl reset running pending noPcu hasDu fetched hn fires generates
    exact step_breakpoint reset running pending noPcu hasDu fetched (by omega)
      (fun hasDu' => debugBefore_fires_of_fetch hasDu' hn fires) generates
  case after =>
    rintro i pre _ pc sm _ hasDu completed rfl rfl
    obtain ⟨pccr, dwcr0, dwcr1, examined⟩ := finishInstr_eq hasDu completed i pre pc sm
    have breaks {n : Nat} := finishInstr_breaks (n := n) (pre := pre) (pc := pc) hasDu completed i sm
    refine ⟨by rw [examined], fun single => ?single, fun trace branch => ?trace, fun n hn fires => ?_,
      fun wpci unchained new generates reached => ?_, fun wpci unchained new generates reached => ?_,
      fun single trace clear => ?quiet⟩
    case single => rw [examined]; simp only [single, Bool.or_true, Bool.true_or]
    case trace => rw [examined]; simp only [trace, branch, Bool.and_true, Bool.or_true]
    case quiet =>
      rw [Bool.and_comm] at trace
      rw [examined]
      simp only [single, trace, breakpoints_of_wgb_clear clear, ne_eq, not_true_eq_false, decide_false, Bool.or_false]
    · exact breaks (by omega) (afterFired_of_accessFired fires)
    · exact breaks (by decide) (afterFired_8 wpci unchained new reached) generates
    · exact breaks (by decide) (afterFired_9 wpci unchained new reached) generates

end Sys2Proof.Machine
end

section
/-! PROOF. Stores to the control registers of the OMPIC. -/

namespace Sys2Proof.Machine

/-! ## The message slots -/

section
variable {s : State}

/-- A slot after one is replaced. -/
theorem ompicSlot_setOmpicSlot (wf : sparseWf emptySlot s.ompic = true) (core : Nat) (v : OmpicSlot) (n : Nat) :
    ompicSlot (setOmpicSlot s core v) n = if n = core then v else ompicSlot s n := sparseGet_set _ _ _ _ wf

/-- The acknowledge clears the core's own request (R911). -/
theorem ompicSlot_ompicAck (wf : sparseWf emptySlot s.ompic = true) (core n : Nat) :
    ompicSlot (ompicAck s core) n = if n = core then { ompicSlot s core with pend := false } else ompicSlot s n :=
  ompicSlot_setOmpicSlot wf core _ n

/-- The message that a word written by `core` sends (R911, R913). -/
def ompicMessage (core : Nat) (w : Word32) : OmpicSlot :=
  { pend := true, src := BitVec.ofNat 14 core, data := w.extractLsb' 0 16 }

/-- The core that a message is for (R911). -/
def ompicDest (w : Word32) : Nat := (w.extractLsb' 16 14).toNat

/-- A message goes to its destination's slot, if that is a core (R913). -/
theorem ompicSlot_ompicSend (wf : sparseWf emptySlot s.ompic = true) (core : Nat) (w : Word32) (n : Nat) :
    ompicSlot (ompicSend s core w) n =
      if n = ompicDest w ∧ ompicDest w < s.cfg.numCores then ompicMessage core w else ompicSlot s n := by
  unfold ompicSend
  change ompicSlot
    (if ompicDest w < s.cfg.numCores then setOmpicSlot s (ompicDest w) (ompicMessage core w) else s) n = _
  split
  · rename_i dest
    rw [ompicSlot_setOmpicSlot wf]
    simp only [dest, and_true]
  · rename_i absent
    rw [if_neg fun h => absent h.2]

/-- The state in which a word's message is sent, its acknowledge done (R913, D56). -/
def ompicAcked (s : State) (core : Nat) (w : Word32) : State := if w.getLsbD 31 then ompicAck s core else s

theorem ompicAcked_wf (wf : sparseWf emptySlot s.ompic = true) (core : Nat) (w : Word32) :
    sparseWf emptySlot (ompicAcked s core w).ompic = true := by
  unfold ompicAcked
  split
  · exact sparseSet_wf _ _ _ wf
  · exact wf

theorem ompicAcked_cfg (s : State) (core : Nat) (w : Word32) : (ompicAcked s core w).cfg = s.cfg := by
  unfold ompicAcked
  split <;> rfl

theorem ompicSlot_ompicAcked (wf : sparseWf emptySlot s.ompic = true) (core : Nat) (w : Word32) (n : Nat) :
    ompicSlot (ompicAcked s core w) n =
      if w.getLsbD 31 = true ∧ n = core then { ompicSlot s core with pend := false } else ompicSlot s n := by
  unfold ompicAcked
  split
  · rename_i ack
    rw [ompicSlot_ompicAck wf]
    simp only [ack, true_and]
  · rename_i noAck
    rw [if_neg fun h => noAck h.1]

/-- A word written to a control register: the acknowledge first, the message after it (R913, D56). -/
theorem ompicSlot_ompicControl (wf : sparseWf emptySlot s.ompic = true) (core : Nat) (w : Word32) (n : Nat) :
    ompicSlot (ompicControl s core w) n =
      if w.getLsbD 30 = true ∧ n = ompicDest w ∧ ompicDest w < s.cfg.numCores then ompicMessage core w
      else if w.getLsbD 31 = true ∧ n = core then { ompicSlot s core with pend := false }
      else ompicSlot s n := by
  have control : ompicControl s core w =
      if w.getLsbD 30 then ompicSend (ompicAcked s core w) core w else ompicAcked s core w := rfl
  rw [control, ← ompicSlot_ompicAcked wf]
  cases w.getLsbD 30
  case false => simp
  case true => simp only [if_true, ompicSlot_ompicSend (ompicAcked_wf wf core w), ompicAcked_cfg, true_and]

/-- The message is delivered to a destination that is a core (R913). -/
theorem ompicControl_delivers (wf : sparseWf emptySlot s.ompic = true) {core : Nat} {w : Word32}
    (gen : w.getLsbD 30 = true) (dest : ompicDest w < s.cfg.numCores) :
    ompicSlot (ompicControl s core w) (ompicDest w) = ompicMessage core w := by
  rw [ompicSlot_ompicControl wf, if_pos ⟨gen, rfl, dest⟩]

/-- The core's own request is cleared unless the message is for the core itself (R911, D56). -/
theorem ompicControl_acknowledges (wf : sparseWf emptySlot s.ompic = true) {core : Nat} {w : Word32}
    (ack : w.getLsbD 31 = true) (other : w.getLsbD 30 = false ∨ ompicDest w ≠ core) :
    (ompicSlot (ompicControl s core w) core).pend = false := by
  have notSent : ¬(w.getLsbD 30 = true ∧ core = ompicDest w ∧ ompicDest w < s.cfg.numCores) := by
    rintro ⟨gen, own, -⟩
    exact other.elim (fun off => Bool.false_ne_true (off.symm.trans gen)) fun ne => ne own.symm
  rw [ompicSlot_ompicControl wf, if_neg notSent, if_pos ⟨ack, rfl⟩]

/-- Every other slot stays. -/
theorem ompicControl_keeps (wf : sparseWf emptySlot s.ompic = true) {core n : Nat} {w : Word32}
    (notOwn : n ≠ core ∨ w.getLsbD 31 = false) (notDest : n ≠ ompicDest w ∨ w.getLsbD 30 = false) :
    ompicSlot (ompicControl s core w) n = ompicSlot s n := by
  have notSent : ¬(w.getLsbD 30 = true ∧ n = ompicDest w ∧ ompicDest w < s.cfg.numCores) := by
    rintro ⟨gen, dest, -⟩
    exact notDest.elim (fun ne => ne dest) fun off => Bool.false_ne_true (off.symm.trans gen)
  have notAcked : ¬(w.getLsbD 31 = true ∧ n = core) := by
    rintro ⟨ack, own⟩
    exact notOwn.elim (fun ne => ne own) fun off => Bool.false_ne_true (off.symm.trans ack)
  rw [ompicSlot_ompicControl wf, if_neg notSent, if_neg notAcked]

end

/-! ## A word store to a control register -/

/-- A store of a word looks at the low half of the register alone. -/
theorem splitBytes_low (v : Word) : splitBytes 4 v = splitBytes 4 (zext (v.setWidth 32)) := by
  refine List.map_congr_left fun k _ => ?_
  have within : 8 * (4 - 1 - k) + 8 ≤ 32 := by omega
  have low : LowWord v (v.setWidth 32) := ⟨rfl⟩
  rw [low.extractLsb' within, (lowWord_zext _).extractLsb' within]

/-- A word at a control register's address is written to that register (R910, R911). -/
theorem ompicStore_control (s : State) (base core : Nat) (w : Word32) :
    ompicStore s base (base + 8 * core) w = ompicControl s core w := by
  have offset : base + 8 * core - base = 8 * core := by omega
  rw [ompicStore, offset, if_pos (Nat.mul_mod_right 8 core), Nat.mul_div_cancel_left core (by decide)]

/-- A store whose checks succeed at a word of the OMPIC writes that register on a big-endian core (R910). -/
theorem memWrite_ompic {ea v : Word} {s s' : State} {pas : List Nat} {base : Nat}
    (h : accessPas .store ea 4 s = .ok pas s') (ho : ompicAccess s.cfg pas = some (some base))
    (big : s.littleEndian = false) :
    memWrite ea 4 v s = .ok () (noteStore ea 4 v pas (ompicStore s' base (pas.headD 0) (v.setWidth 32))) := by
  have only := accessPas_onlyMmu (by decide) h
  have order : s'.littleEndian = false := by rw [only.frame]; exact big
  have word : (joinBytes (dataOrder s' (splitBytes 4 v))).setWidth 32 = v.setWidth 32 := by
    rw [dataOrder, order, splitBytes_low, if_neg (by decide), joinBytes_splitBytes_word, (lowWord_zext _).eq]
  simp only [memWrite, h, writeAt, only.cfg, ho, word]

theorem exec_lSw_ompic {s s' : State} {a b : RegNo} {i : BitVec 16} {pas : List Nat} {base core : Nat}
    (ready : Ready s (.lSw a b i)) (h : accessPas .store (s.addr a i) 4 s = .ok pas s')
    (ho : ompicAccess s.cfg pas = some (some base)) (control : pas.headD 0 = base + 8 * core)
    (big : s.littleEndian = false) :
    exec (.lSw a b i) s =
      .next (advance (noteStore (s.addr a i) 4 (s.reg b) pas (ompicControl s' core ((s.reg b).setWidth 32)))) := by
  have run : exec (.lSw a b i) s = storeFrom a b i 4 s := gate_ready ready _
  rw [run, storeFrom, memWrite_ompic h ho big, control, ompicStore_control]
  rfl

/-- Settles O60: the store ends in `ompicControl`, which changes slots alone. -/
theorem ompicMessages : Obligations.OmpicMessages := by
  intro s s' a b i pas base core wf ready h ho control w big hw
  have only := accessPas_onlyMmu (by decide) h
  have slots : s'.ompic = s.ompic := by rw [only.frame]
  have wf' : sparseWf emptySlot s'.ompic = true := slots ▸ wf
  have run := exec_lSw_ompic ready h ho control big
  rw [← hw] at run
  have eq := ompicControl_eq s' core w
  have slot (n : Nat) : ompicSlot (advance (noteStore (s.addr a i) 4 (s.reg b) pas (ompicControl s' core w))) n =
      ompicSlot (ompicControl s' core w) n := congrArg (sparseGet emptySlot · n) (advance_ompic _)
  refine ⟨_, run, only.goesOn ?cfg ?pc ?ds, gprFrame_refl ?gpr _, memFrame_refl ?mem _, ?sr, fun gen dest => ?delivered,
    fun ack other => ?acknowledged, fun n notOwn notDest => ?kept⟩
  case cfg | pc | ds => rw [eq]; rfl
  case gpr => rw [advance_gpr, eq]; exact only.gpr
  case mem => rw [advance_mem, eq]; rfl
  case sr => rw [advance_sr, eq]; exact only.sr
  case delivered => exact (slot _).trans (ompicControl_delivers wf' gen (only.cfg.symm ▸ dest))
  case acknowledged => rw [slot]; exact ompicControl_acknowledges wf' ack other
  case kept =>
    rw [slot, ompicControl_keeps wf' notOwn notDest, ompicSlot, slots]
    rfl

end Sys2Proof.Machine
end
